-- ==== Sys2Proof/Word.lean ====
section
/-! DEFINITION. The word types of SMRC (00_scope.md rule R7): every value is an unsigned bit vector, bit 0 least significant. -/

namespace Sys2Proof

/-- `u8`: a byte of the keystream, of OUTBUF or of the entropy source. -/
abbrev Byte := BitVec 8

/-- `u32`: a register of the window, a command word, a ChaCha state word. -/
abbrev Word := BitVec 32

/-- `u64`: a xoshiro256++ or SplitMix64 state word, a 64-bit result. -/
abbrev DWord := BitVec 64

/-- `u128`: the PCG state and increment. -/
abbrev QWord := BitVec 128

end Sys2Proof
end

