-- ==== Sys2Proof/Config.lean ====
section
/-! DEFINITION. The parameters of SMRC that the spec fixes (00_scope.md rule R6) and the constants its rules give. The OPEN
parameter `P_BASE` is State.windowPage (log 4); `N_HOSTS` is not bounded (log 5); `P_BUS_ERROR` stands behind a refusal (log 6). -/

namespace Sys2Proof.Config

/-- Size of the register window in bytes (R6, 20_memory.md rule R60). -/
def windowBytes : Nat := 4096

/-- `FILL_MAX`, the largest LEN of CC_FILL and ENT_FILL (R6). -/
def fillMax : Nat := 64

/-- `PROBE_BYTES` (R6). -/
def probeBytes : Nat := 8

/-- `RCT_CUTOFF` (R6, 43_entropy.md rule R185). -/
def rctCutoff : Nat := 4

/-- `APT_CUTOFF` (R6, 43_entropy.md rule R186). The window of 512 samples is the width of the 9-bit sample counter. -/
def aptCutoff : Nat := 13

/-- The constant the ID register reads (10_state.md rule R21). -/
def idWord : Word := 0x534D5243#32

/-- The constant the VERSION register reads (10_state.md rule R22). -/
def versionWord : Word := 0x00010000#32

/-- `PCG_MUL` (42_pcg.md rule R160). -/
def pcgMul : QWord := 0x2360ED051FC65DA44385DF649FCCF645#128

/-- The additive constant of SplitMix64 (41_xoshiro.md rule R143). -/
def smGamma : DWord := 0x9E3779B97F4A7C15#64

/-- The multiplier of SplitMix64's first mixing round (41_xoshiro.md rule R143). -/
def smMul1 : DWord := 0xBF58476D1CE4E5B9#64

/-- The multiplier of SplitMix64's second mixing round (41_xoshiro.md rule R143). -/
def smMul2 : DWord := 0x94D049BB133111EB#64

end Sys2Proof.Config
end

