-- ==== Sys2Proof/Syntax.lean ====
section
/-! DEFINITION. The command set SMRC-CMD 1.0 as syntax: one constructor per row of spec/opcode_table.json
(30_encoding.md rule R84). -/

namespace Sys2Proof

/-- The ChaCha round counts that exist, 8, 12 and 20 (30_encoding.md rule R83, 40_chacha.md rule R105). -/
inductive Rounds where
  | r8
  | r12
  | r20
  deriving DecidableEq, Repr

/-- One SMRC command. `len` is the raw LEN field of format L; WellFormed bounds it. -/
inductive Instr where
  | nop
  | ccLoad (rnd : Rounds)
  | ccNext32
  | ccNext64
  | ccFill (len : BitVec 8)
  | xoLoad
  | xoSeed64
  | xoNext32
  | xoNext64
  | pcgLoad
  | pcgNext32
  | pcgNext64
  | smLoad
  | smNext64
  | entFill (len : BitVec 8)
  deriving DecidableEq, Repr

end Sys2Proof
end

