-- ==== Sys2Proof/WellFormed.lean ====
section
/-! DEFINITION. Which terms of Instr are legal commands (30_encoding.md rules R82, R83, R87, R88). -/

namespace Sys2Proof

/-- LEN is at most `FILL_MAX` (30_encoding.md rule R82). -/
def lenOk (len : BitVec 8) : Bool := decide (len.toNat ≤ Config.fillMax)

/-- A legal command: a fill's LEN is 0..64. The round code has only its three legal values in the type (R83). -/
def Instr.wellFormed : Instr → Bool
  | .ccFill len => lenOk len
  | .entFill len => lenOk len
  | .nop | .ccLoad _ | .ccNext32 | .ccNext64 | .xoLoad | .xoSeed64 | .xoNext32 | .xoNext64
  | .pcgLoad | .pcgNext32 | .pcgNext64 | .smLoad | .smNext64 => true

end Sys2Proof
end

