-- ==== Sys2Proof/Decode.lean ====
section
/-! DEFINITION. Decoding of a command word, total on 32-bit words, with the checks of 30_encoding.md rule R86 in their order, and
the encoder written from the same formats (R81, R82, R83) and opcode map (R84). -/

namespace Sys2Proof

/-- Why a command word is illegal (30_encoding.md rules R86, R87). -/
inductive DecodeError where
  /-- `cmd[7:0]` is no opcode of rule R84. -/
  | unknownOp
  /-- A bit of the format's zero field is set. -/
  | reservedBits
  /-- LEN is 65..255. -/
  | lenRange
  /-- RND is 3. -/
  | rndIllegal
  deriving DecidableEq, Repr

/-- The FAULT_INFO value of an illegal word (30_encoding.md rule R86). -/
def decodeInfo : DecodeError → Word
  | .unknownOp => 1#32
  | .reservedBits => 2#32
  | .lenRange => 3#32
  | .rndIllegal => 4#32

/-- The round code of the RND field: 0, 1, 2 are legal and 3 is not (30_encoding.md rule R83). -/
def roundsOfCode (code : BitVec 2) : Option Rounds :=
  match code.toNat with
  | 0 => some .r8
  | 1 => some .r12
  | 2 => some .r20
  | _ => none

/-- The 2-bit code of a round count, in the RND field and in STATUS.CC_RND (30_encoding.md rule R83, 10_state.md rule R23). -/
def codeOfRounds : Rounds → BitVec 2
  | .r8 => 0#2
  | .r12 => 1#2
  | .r20 => 2#2

/-- Format Z: bits 31:8 must be 0 (30_encoding.md rules R81, R86). -/
def decodeZ (w : Word) (i : Instr) : Except DecodeError Instr :=
  if w.extractLsb' 8 24 ≠ 0#24 then .error .reservedBits else .ok i

/-- Format L: bits 31:16 must be 0, then LEN in bits 15:8 at most 64 (30_encoding.md rules R82, R86). -/
def decodeL (w : Word) (mk : BitVec 8 → Instr) : Except DecodeError Instr :=
  if w.extractLsb' 16 16 ≠ 0#16 then .error .reservedBits
  else if lenOk (w.extractLsb' 8 8) then .ok (mk (w.extractLsb' 8 8)) else .error .lenRange

/-- Format R: bits 31:10 must be 0, then RND in bits 9:8 not 3 (30_encoding.md rules R83, R86). -/
def decodeR (w : Word) (mk : Rounds → Instr) : Except DecodeError Instr :=
  if w.extractLsb' 10 22 ≠ 0#22 then .error .reservedBits
  else match roundsOfCode (w.extractLsb' 8 2) with
    | some r => .ok (mk r)
    | none => .error .rndIllegal

/-- The command of a word, or why it is none (30_encoding.md rules R84, R86). It reads the word alone (R89). -/
def decode (w : Word) : Except DecodeError Instr :=
  match (w.extractLsb' 0 8).toNat with
  | 0x00 => decodeZ w .nop
  | 0x01 => decodeR w .ccLoad
  | 0x02 => decodeZ w .ccNext32
  | 0x03 => decodeZ w .ccNext64
  | 0x04 => decodeL w .ccFill
  | 0x10 => decodeZ w .xoLoad
  | 0x11 => decodeZ w .xoSeed64
  | 0x12 => decodeZ w .xoNext32
  | 0x13 => decodeZ w .xoNext64
  | 0x20 => decodeZ w .pcgLoad
  | 0x21 => decodeZ w .pcgNext32
  | 0x22 => decodeZ w .pcgNext64
  | 0x30 => decodeZ w .smLoad
  | 0x31 => decodeZ w .smNext64
  | 0x40 => decodeL w .entFill
  | _ => .error .unknownOp

/-- Format Z as a word (30_encoding.md rule R81). -/
def encodeZ (op : BitVec 8) : Word := 0#24 ++ op

/-- Format L as a word (30_encoding.md rule R82). -/
def encodeL (len op : BitVec 8) : Word := 0#16 ++ len ++ op

/-- Format R as a word (30_encoding.md rule R83). -/
def encodeR (rnd : Rounds) (op : BitVec 8) : Word := 0#22 ++ codeOfRounds rnd ++ op

/-- The word of a command (30_encoding.md rule R84). -/
def encode : Instr → Word
  | .nop => encodeZ 0x00#8
  | .ccLoad rnd => encodeR rnd 0x01#8
  | .ccNext32 => encodeZ 0x02#8
  | .ccNext64 => encodeZ 0x03#8
  | .ccFill len => encodeL len 0x04#8
  | .xoLoad => encodeZ 0x10#8
  | .xoSeed64 => encodeZ 0x11#8
  | .xoNext32 => encodeZ 0x12#8
  | .xoNext64 => encodeZ 0x13#8
  | .pcgLoad => encodeZ 0x20#8
  | .pcgNext32 => encodeZ 0x21#8
  | .pcgNext64 => encodeZ 0x22#8
  | .smLoad => encodeZ 0x30#8
  | .smNext64 => encodeZ 0x31#8
  | .entFill len => encodeL len 0x40#8

/-- The command word made of the table's `nbits` bits `w`, every bit above them 0 (a command is one word, 30_encoding.md rule R80). -/
def tableWord (nbits w : Nat) : Word := BitVec.ofNat 32 (w % 2 ^ nbits)

/-- The instruction the decoder reads from the table's bits, or none where it refuses. -/
def decodeTableWord (nbits w : Nat) : Option Instr :=
  match decode (tableWord nbits w) with
  | .ok i => some i
  | .error _ => none

end Sys2Proof
end

