-- ==== Sys2Proof/Machine/State.lean ====
section
/-! DEFINITION. The state of SMRC as plain data (10_state.md), the moves of the agents around it (00_scope.md rule R11), the
machine's stops, and the state after reset (10_state.md rule R42). -/

namespace Sys2Proof.Machine

/-- The fault causes of 60_exceptions.md rule R243. Codes 10..15 have no name here, because they are never produced (log 12). -/
inductive Cause where
  | illegalCmd
  | unseeded
  | xoZeroSeed
  | ccExhausted
  | entSourceFail
  | entProbeRepeat
  | entProbeInData
  | entRctFail
  | entAptFail
  deriving DecidableEq, Repr

/-- What the entropy source answers to one request (43_entropy.md rule R181): `ent_data` with `ent_err` = 0, or `ent_err` = 1. -/
inductive Answer where
  | byte (b : Byte)
  | error
  deriving DecidableEq, Repr

/-- What a bus access does: `MemRead` or `MemWrite` of a value (00_scope.md rule R10). -/
inductive AccessKind where
  | read
  | write (v : Word)
  deriving DecidableEq, Repr

/-- One bus access of a host: which host, the bus address, the width in bytes, and what it does (20_memory.md rule R62). -/
structure Access where
  host : Nat
  addr : Nat
  bytes : Nat
  kind : AccessKind
  deriving DecidableEq, Repr

/-- One move of an agent: a host's access, a turn of the core sequencer, an answer of the entropy source (00_scope.md rule R11), or
the platform driving the reset input to a level (70_reset_and_hazards.md rule R270). -/
inductive Move where
  | host (a : Access)
  | core
  | source (ans : Answer)
  | rst (asserted : Bool)
  deriving DecidableEq, Repr

/-- The ChaCha unit (10_state.md rule R35): `cc.S`, `cc.BUF`, `cc.CUR`, `cc.RND`, `cc.SEEDED`. -/
structure Chacha where
  words : Vector Word 16
  buf : Vector Byte 64
  cur : BitVec 7
  rnd : Rounds
  seeded : Bool
  deriving DecidableEq, Repr

/-- The xoshiro256++ unit (10_state.md rule R36). -/
structure Xoshiro where
  s0 : DWord
  s1 : DWord
  s2 : DWord
  s3 : DWord
  seeded : Bool
  deriving DecidableEq, Repr

/-- The PCG-128 unit (10_state.md rule R37). -/
structure Pcg where
  state : QWord
  inc : QWord
  seeded : Bool
  deriving DecidableEq, Repr

/-- The standalone SplitMix64 unit (10_state.md rule R38). -/
structure SplitMix where
  state : DWord
  seeded : Bool
  deriving DecidableEq, Repr

/-- The Repetition Count Test's state (10_state.md rule R39). -/
structure Rct where
  valid : Bool
  value : Byte
  run : BitVec 3
  deriving DecidableEq, Repr

/-- The Adaptive Proportion Test's state (10_state.md rule R39). `count` is `ent.apt.matches`. -/
structure Apt where
  value : Byte
  count : BitVec 4
  n : BitVec 9
  deriving DecidableEq, Repr

/-- `ent.phase` (10_state.md rule R39). -/
inductive Phase where
  | idle
  | probe
  | data
  deriving DecidableEq, Repr

/-- The entropy health guard (10_state.md rule R39). -/
structure Ent where
  prev : Vector Byte 8
  prevValid : Bool
  rct : Rct
  apt : Apt
  phase : Phase
  k : BitVec 7
  probe : Vector Byte 8
  data : Vector Byte 64
  deriving DecidableEq, Repr

/-- Everything the spec gives the machine, and at the end the model's own fields. -/
structure State where
  /-- STATUS.BUSY (R23). -/
  busy : Bool
  /-- STATUS.FAULT (R23), the latch of 60_exceptions.md rule R242. -/
  fault : Bool
  /-- STATUS.OVR (R23). -/
  ovr : Bool
  /-- LAST_CMD (R25). -/
  lastCmd : Word
  /-- FAULT_CAUSE (R26): none is code 0. -/
  cause : Option Cause
  /-- FAULT_CMD (R26). -/
  faultCmd : Word
  /-- FAULT_INFO (R26). -/
  faultInfo : Word
  /-- SEED0..SEED9 (R27). -/
  seed : Vector Word 10
  /-- OUT_LO (R28). -/
  outLo : Word
  /-- OUT_HI (R28). -/
  outHi : Word
  /-- `OUTBUF[0..64)` (R29). -/
  outbuf : Vector Byte 64
  /-- `seq.cmd` (R40). -/
  seqCmd : Word
  /-- `seq.snap[0..10)` (R40). -/
  seqSnap : Vector Word 10
  cc : Chacha
  xo : Xoshiro
  pcg : Pcg
  sm : SplitMix
  ent : Ent
  /-- The level of the reset input `rst` (70_reset_and_hazards.md rule R270). -/
  rst : Bool
  /-- The answer on the source port: `ent_ack` with `ent_err` and `ent_data` (43_entropy.md rule R181), log 9. -/
  port : Option Answer
  /-- Model's own (log 8): what the last admitted read answered. -/
  rdata : Option Word
  /-- Model's own (log 4): `P_BASE` divided by 4096. -/
  windowPage : Nat
  /-- Model's own (log 1): the coming moves of the agents, the next one first. -/
  moves : List Move
  deriving DecidableEq, Repr

/-- Reasons the model's machine stops where the spec gives no step. The spec's own faults (60_exceptions.md) are NOT here: they are
latched in the state, and the step that latches one answers a next state. -/
inductive Fault where
  /-- Raised by a host access to an address outside the window `P_BASE`..`P_BASE + 0xFFF`, the only address space there is
  (20_memory.md rule R60). Safe: the machine stops. -/
  | outsideWindow
  deriving DecidableEq, Repr

/-- Moves the model refuses because the spec says a model must give them no meaning. -/
inductive Refusal where
  /-- An instruction with no meaning yet. No arm of exec answers it. -/
  | notModelled (mnemonic : String)
  /-- Raised by an access of another width than 32 bits or at an offset that is no multiple of 4 (20_memory.md rule R63). Safe. -/
  | badAccess
  /-- Raised by an access while `rst` is asserted (70_reset_and_hazards.md rule R270). Safe. -/
  | accessInReset
  /-- Raised by a source answer while `ent_req` is 0 (70_reset_and_hazards.md rules R271, R286, I13). Safe for SMRC, and the platform
  is assumed never to do it. -/
  | answerWithoutRequest
  deriving DecidableEq, Repr

/-- The ChaCha unit at reset (10_state.md rule R42). -/
def Chacha.reset : Chacha :=
  { words := Vector.replicate 16 0#32, buf := Vector.replicate 64 0#8, cur := 0#7, rnd := .r8, seeded := false }

/-- The entropy unit at reset (10_state.md rule R42). -/
def Ent.reset : Ent :=
  { prev := Vector.replicate 8 0#8, prevValid := false
    rct := { valid := false, value := 0#8, run := 0#3 }
    apt := { value := 0#8, count := 0#4, n := 0#9 }
    phase := .idle, k := 0#7, probe := Vector.replicate 8 0#8, data := Vector.replicate 64 0#8 }

/-- The machine right after reset (10_state.md rule R42, 70_reset_and_hazards.md rule R270): idle, unseeded, all zero. The values of
`port`, `rdata`, `windowPage` and `moves` are the model's (log 9, 8, 4, 1). -/
def State.reset : State :=
  { busy := false, fault := false, ovr := false
    lastCmd := 0#32, cause := none, faultCmd := 0#32, faultInfo := 0#32
    seed := Vector.replicate 10 0#32
    outLo := 0#32, outHi := 0#32, outbuf := Vector.replicate 64 0#8
    seqCmd := 0#32, seqSnap := Vector.replicate 10 0#32
    cc := Chacha.reset
    xo := { s0 := 0#64, s1 := 0#64, s2 := 0#64, s3 := 0#64, seeded := false }
    pcg := { state := 0#128, inc := 0#128, seeded := false }
    sm := { state := 0#64, seeded := false }
    ent := Ent.reset
    rst := false, port := none, rdata := none, windowPage := 0, moves := [] }

end Sys2Proof.Machine
end

