-- ==== Sys2Proof/Machine/Flags.lean ====
section
/-! DEFINITION. The read views of flag and debug registers (10_state.md rules R23, R26, R31, R32, R33) and the two output signals. -/

namespace Sys2Proof.Machine

/-- The code of a cause in FAULT_CAUSE bits 3:0 (60_exceptions.md rule R243). -/
def causeCode : Cause → BitVec 4
  | .illegalCmd => 1#4
  | .unseeded => 2#4
  | .xoZeroSeed => 3#4
  | .ccExhausted => 4#4
  | .entSourceFail => 5#4
  | .entProbeRepeat => 6#4
  | .entProbeInData => 7#4
  | .entRctFail => 8#4
  | .entAptFail => 9#4

/-- FAULT_CAUSE as read: bits 3:0 the code or 0, bits 31:4 zero (10_state.md rule R26). -/
def causeWord (c : Option Cause) : Word :=
  match c with
  | none => 0#32
  | some c => (causeCode c).setWidth 32

/-- STATUS as read (10_state.md rule R23): CC_RND in 10:9, PREV_VALID 8, SM 7, PCG 6, XO 5, CC 4 seeded, 3 zero, OVR 2, FAULT 1,
BUSY 0. -/
def statusWord (s : State) : Word :=
  (0#21 : BitVec 21) ++ codeOfRounds s.cc.rnd ++ BitVec.ofBool s.ent.prevValid ++ BitVec.ofBool s.sm.seeded
    ++ BitVec.ofBool s.pcg.seeded ++ BitVec.ofBool s.xo.seeded ++ BitVec.ofBool s.cc.seeded ++ 0#1
    ++ BitVec.ofBool s.ovr ++ BitVec.ofBool s.fault ++ BitVec.ofBool s.busy

/-- ENT_RCT as read (10_state.md rule R32): run in 18:16, valid in 8, value in 7:0. -/
def rctWord (r : Rct) : Word := (0#13 : BitVec 13) ++ r.run ++ 0#7 ++ BitVec.ofBool r.valid ++ r.value

/-- ENT_APT as read (10_state.md rule R33): n in 24:16, matches in 11:8, value in 7:0. -/
def aptWord (a : Apt) : Word := (0#7 : BitVec 7) ++ a.n ++ 0#4 ++ a.count ++ a.value

/-- The output `fault_o` (60_exceptions.md rule R248), 0 while `rst` is asserted (70_reset_and_hazards.md rule R270). -/
def faultOut (s : State) : Bool := !s.rst && s.fault

/-- The output `ent_req` (43_entropy.md rules R181, R190): 1 while an ENT_FILL waits for one byte, 0 while `rst` is asserted. -/
def entReq (s : State) : Bool := !s.rst && s.busy && decide (s.ent.phase ≠ .idle)

/-- A core step is enabled while BUSY = 1, except while ENT_FILL waits for a source answer (44_control.md rule R225), and never while
`rst` is asserted (70_reset_and_hazards.md rule R270). -/
def coreEnabled (s : State) : Bool := !s.rst && s.busy && decide (s.ent.phase = .idle)

end Sys2Proof.Machine
end

