-- ==== Sys2Proof/Machine/Bits.lean ====
section
/-! DEFINITION. Byte order and rotation (00_scope.md rules R8, R9): little-endian everywhere. -/

namespace Sys2Proof.Machine

/-- `LE32(b0, b1, b2, b3)`, b0 least significant (R9). -/
def le32 (b0 b1 b2 b3 : Byte) : Word := b3 ++ b2 ++ b1 ++ b0

/-- `hi ++ lo` of two words (R8). -/
def le64 (lo hi : Word) : DWord := hi ++ lo

/-- Four words as a u128, the first one least significant (R8, 30_encoding.md rule R85). -/
def le128 (w0 w1 w2 w3 : Word) : QWord := w3 ++ w2 ++ w1 ++ w0

/-- Byte `b` of a word, `w[8b+7:8b]` (R9, `bytesLE32`). -/
def byteOf (w : Word) (b : Nat) : Byte := w.extractLsb' (8 * b) 8

/-- The low half `v[31:0]` of a u64. -/
def lo32 (v : DWord) : Word := v.extractLsb' 0 32

/-- The high half `v[63:32]` of a u64. -/
def hi32 (v : DWord) : Word := v.extractLsb' 32 32

/-- `rotl_32` (R8). -/
def rotl32 (a : Word) (k : Nat) : Word := if k = 0 then a else (a <<< k) ||| (a >>> (32 - k))

/-- `rotl_64` (R8). -/
def rotl64 (a : DWord) (k : Nat) : DWord := if k = 0 then a else (a <<< k) ||| (a >>> (64 - k))

/-- `rotr_64` (R8). -/
def rotr64 (a : DWord) (k : Nat) : DWord := if k = 0 then a else (a >>> k) ||| (a <<< (64 - k))

end Sys2Proof.Machine
end

