-- ==== Sys2Proof/Machine/Ops.lean ====
section
/-! DEFINITION. The named operations over the state that several commands share: a unit's replacement, the result registers, the
completion and acceptance of a command, taking a fault, and reset, the one way out of it. -/

namespace Sys2Proof.Machine

/-- Replace the ChaCha unit's state. -/
def State.setCc (s : State) (u : Chacha) : State := { s with cc := u }

/-- Replace the xoshiro unit's state. -/
def State.setXo (s : State) (u : Xoshiro) : State := { s with xo := u }

/-- Replace the PCG unit's state. -/
def State.setPcg (s : State) (u : Pcg) : State := { s with pcg := u }

/-- Replace the SplitMix64 unit's state. -/
def State.setSm (s : State) (u : SplitMix) : State := { s with sm := u }

/-- Replace the entropy unit's state. -/
def State.setEnt (s : State) (u : Ent) : State := { s with ent := u }

/-- Put an answer on the source port, or take it off (43_entropy.md rule R181). -/
def State.setPort (s : State) (p : Option Answer) : State := { s with port := p }

/-- Write a 64-bit result to OUT_HI:OUT_LO (10_state.md rule R28). -/
def State.setOut (s : State) (v : DWord) : State := { s with outLo := lo32 v, outHi := hi32 v }

/-- The 64 bytes of OUTBUF after a fill: the fill's bytes, then zeros (10_state.md rule R29). -/
def padded (bytes : List Byte) : Vector Byte 64 := Vector.ofFn fun i : Fin 64 => bytes.getD i.val 0#8

/-- Write a fill's bytes to OUTBUF, zeros after them (10_state.md rule R29). -/
def State.setOutbuf (s : State) (bytes : List Byte) : State := { s with outbuf := padded bytes }

/-- The completion of a command: BUSY <- 0 (44_control.md rule R222). -/
def State.complete (s : State) : State := { s with busy := false }

/-- Acceptance of a CMD write of `v` (44_control.md rule R221). -/
def State.accept (s : State) (v : Word) : State :=
  { s with seqCmd := v, seqSnap := s.seed, lastCmd := v, busy := true }

/-- TAKING A FAULT: the fault step of 60_exceptions.md rule R242. `fault_o` follows STATUS.FAULT (rule R248). -/
def State.raiseFault (s : State) (c : Cause) (info : Word) : State :=
  { s with fault := true, cause := some c, faultCmd := s.seqCmd, faultInfo := info, busy := false }

/-- The way out of a fault, and the only one (60_exceptions.md rule R247): releasing `rst` gives every piece of state its reset value
(70_reset_and_hazards.md rule R270). The window's place and the agents' coming moves are not SMRC's state and stay. -/
def State.releaseReset (s : State) : State :=
  { State.reset with windowPage := s.windowPage, moves := s.moves }

end Sys2Proof.Machine
end

