-- ==== Sys2Proof/Machine/Bus.lean ====
section
/-! DEFINITION. The register window (10_state.md rule R20, 20_memory.md): the map, reads, writes, the issue of a command, and the bus
access of a host. -/

namespace Sys2Proof.Machine

/-- What stands at an offset of the window (10_state.md rule R20). -/
inductive Reg where
  | id
  | version
  | status
  | cmd
  | faultCause
  | faultCmd
  | faultInfo
  | seed (i : Fin 10)
  | outLo
  | outHi
  | outbuf (j : Fin 16)
  | ccCtrLo
  | ccCtrHi
  | ccCursor
  | entRct
  | entApt
  | reserved
  deriving DecidableEq, Repr

/-- The registers at single offsets (10_state.md rule R20). -/
def regAtFixed (off : Nat) : Reg :=
  match off with
  | 0x000 => .id
  | 0x004 => .version
  | 0x008 => .status
  | 0x00C => .cmd
  | 0x010 => .faultCause
  | 0x014 => .faultCmd
  | 0x018 => .faultInfo
  | 0x080 => .outLo
  | 0x084 => .outHi
  | 0x100 => .ccCtrLo
  | 0x104 => .ccCtrHi
  | 0x108 => .ccCursor
  | 0x140 => .entRct
  | 0x144 => .entApt
  | _ => .reserved

/-- The register at an offset that is a multiple of 4 (10_state.md rule R20); every offset not in the table is reserved. -/
def regAt (off : Nat) : Reg :=
  if h : 0x040 ≤ off ∧ off < 0x068 then .seed ⟨(off - 0x040) / 4, by omega⟩
  else if h : 0x0C0 ≤ off ∧ off < 0x100 then .outbuf ⟨(off - 0x0C0) / 4, by omega⟩
  else regAtFixed off

/-- OUTBUFj as read: bytes 4j .. 4j+3, little-endian (10_state.md rule R29). -/
def outbufWord (b : Vector Byte 64) (j : Fin 16) : Word :=
  le32 (b[4 * j.val]'(by omega)) (b[4 * j.val + 1]'(by omega)) (b[4 * j.val + 2]'(by omega)) (b[4 * j.val + 3]'(by omega))

/-- The value a register reads (10_state.md rules R21..R34). A reserved offset reads 0. -/
def readReg (s : State) : Reg → Word
  | .id => Config.idWord
  | .version => Config.versionWord
  | .status => statusWord s
  | .cmd => s.lastCmd
  | .faultCause => causeWord s.cause
  | .faultCmd => s.faultCmd
  | .faultInfo => s.faultInfo
  | .seed i => s.seed[i]
  | .outLo => s.outLo
  | .outHi => s.outHi
  | .outbuf j => outbufWord s.outbuf j
  | .ccCtrLo => s.cc.words[12]
  | .ccCtrHi => s.cc.words[13]
  | .ccCursor => s.cc.cur.setWidth 32
  | .entRct => rctWord s.ent.rct
  | .entApt => aptWord s.ent.apt
  | .reserved => 0#32

/-- The issue of a command by a CMD write: accepted when IDLE (44_control.md rule R221), dropped with OVR set when BUSY and without any
effect when FAULTED (rule R223). -/
def issue (s : State) (v : Word) : State :=
  if s.fault then s
  else if s.busy then { s with ovr := true }
  else s.accept v

/-- A write of STATUS: bit 2 set clears OVR, nothing else happens (10_state.md rule R23). -/
def writeStatus (s : State) (v : Word) : State := if v.getLsbD 2 then { s with ovr := false } else s

/-- What a 32-bit write does (20_memory.md rule R66): CMD issues, STATUS clears OVR, SEEDn stores, every other write is ignored. -/
def writeReg (s : State) (r : Reg) (v : Word) : State :=
  match r with
  | .cmd => issue s v
  | .status => writeStatus s v
  | .seed i => { s with seed := s.seed.set i v }
  | .id | .version | .faultCause | .faultCmd | .faultInfo | .outLo | .outHi | .outbuf _
  | .ccCtrLo | .ccCtrHi | .ccCursor | .entRct | .entApt | .reserved => s

/-- The base address `P_BASE` of the window, a multiple of 4096 (00_scope.md rule R6, log 4). -/
def pBase (s : State) : Nat := Config.windowBytes * s.windowPage

/-- The offset in the window of a bus address, or none outside it (20_memory.md rule R60). -/
def windowOffset (s : State) (addr : Nat) : Option Nat :=
  if pBase s ≤ addr ∧ addr < pBase s + Config.windowBytes then some (addr - pBase s) else none

/-- The byte at bus address `P_BASE + x`: bits 8b+7:8b of the register at the multiple of 4 below (20_memory.md rule R61). -/
def windowByte (s : State) (x : Nat) : Byte := byteOf (readReg s (regAt (4 * (x / 4)))) (x % 4)

/-- An admitted access at an offset (20_memory.md rules R62, R64, R66): a read answers the register and changes no SMRC state. -/
def admitted (s : State) (off : Nat) (kind : AccessKind) : State :=
  match kind with
  | .read => { s with rdata := some (readReg s (regAt off)) }
  | .write v => writeReg s (regAt off) v

/-- One bus access of a host (20_memory.md rules R60, R62, R63; 70_reset_and_hazards.md rule R270). It does not look at which host it is
(60_exceptions.md rules R249, R252). -/
def hostAccess (s : State) (a : Access) : Host.Outcome State Fault Refusal :=
  match windowOffset s a.addr with
  | none => .fault .outsideWindow
  | some off =>
    if s.rst then .refused .accessInReset
    else if a.bytes = 4 ∧ off % 4 = 0 then .next (admitted s off a.kind)
    else .refused .badAccess

end Sys2Proof.Machine
end

