-- ==== Sys2Proof/Machine/Operands.lean ====
section
/-! DEFINITION. Operand assembly from the SEED snapshot `seq.snap` (30_encoding.md rule R85, 10_state.md rule R27): the lower-numbered
register holds the less significant word. LEN and RND come from the command word and are fields of Instr. -/

namespace Sys2Proof.Machine

/-- `seq.snap[i+1] ++ seq.snap[i]`. -/
def snap64 (snap : Vector Word 10) (i : Nat) (h : i + 1 < 10) : DWord := le64 snap[i] snap[i + 1]

/-- `seq.snap[i+3] ++ .. ++ seq.snap[i]`. -/
def snap128 (snap : Vector Word 10) (i : Nat) (h : i + 3 < 10) : QWord :=
  le128 snap[i] snap[i + 1] snap[i + 2] snap[i + 3]

/-- The seed of XO_SEED64 and SM_LOAD (R27). -/
def seedOperand (snap : Vector Word 10) : DWord := snap64 snap 0 (by decide)

/-- The seed of PCG_LOAD, SEED3 ++ SEED2 ++ SEED1 ++ SEED0 (R27). -/
def pcgSeedOperand (snap : Vector Word 10) : QWord := snap128 snap 0 (by decide)

/-- The stream value of PCG_LOAD, SEED7 ++ SEED6 ++ SEED5 ++ SEED4 (R27). -/
def pcgStreamOperand (snap : Vector Word 10) : QWord := snap128 snap 4 (by decide)

end Sys2Proof.Machine
end

