-- ==== Sys2Proof/Machine/Chacha.lean ====
section
/-! DEFINITION. The ChaCha stream generator (40_chacha.md): the block function, Regenerate, and the meanings of CC_LOAD, CC_NEXT32,
CC_NEXT64 and CC_FILL. -/

namespace Sys2Proof.Machine

/-- `QR(a, b, c, d)` on the working array (40_chacha.md rule R102; the order of its operations is general knowledge G1, log 14). -/
def quarterRound (a b c d : Fin 16) (w : Vector Word 16) : Vector Word 16 :=
  let w := w.set a (w[a] + w[b])
  let w := w.set d (rotl32 (w[d] ^^^ w[a]) 16)
  let w := w.set c (w[c] + w[d])
  let w := w.set b (rotl32 (w[b] ^^^ w[c]) 12)
  let w := w.set a (w[a] + w[b])
  let w := w.set d (rotl32 (w[d] ^^^ w[a]) 8)
  let w := w.set c (w[c] + w[d])
  w.set b (rotl32 (w[b] ^^^ w[c]) 7)

/-- Four column quarter-rounds, then four diagonal ones (40_chacha.md rule R103; the lanes are general knowledge G2, log 14). -/
def doubleRound (w : Vector Word 16) : Vector Word 16 :=
  let w := quarterRound 0 4 8 12 w
  let w := quarterRound 1 5 9 13 w
  let w := quarterRound 2 6 10 14 w
  let w := quarterRound 3 7 11 15 w
  let w := quarterRound 0 5 10 15 w
  let w := quarterRound 1 6 11 12 w
  let w := quarterRound 2 7 8 13 w
  quarterRound 3 4 9 14 w

/-- `n` double-rounds one after another (40_chacha.md rule R104). -/
def doubleRounds : Nat → Vector Word 16 → Vector Word 16
  | 0, w => w
  | n + 1, w => doubleRounds n (doubleRound w)

/-- `rounds(RND)` (40_chacha.md rule R105). -/
def roundCount : Rounds → Nat
  | .r8 => 8
  | .r12 => 12
  | .r20 => 20

/-- `bytesLE32(W[0]) ++ .. ++ bytesLE32(W[15])`: byte `4i + b` is `W[i][8b+7:8b]` (40_chacha.md rule R104). -/
def serialize (w : Vector Word 16) : Vector Byte 64 :=
  Vector.ofFn fun i : Fin 64 => byteOf (w[i.val / 4]'(by omega)) (i.val % 4)

/-- `ChaChaBlock(S, rounds)` (40_chacha.md rule R104). -/
def chachaBlock (s : Vector Word 16) (r : Rounds) : Vector Byte 64 :=
  let m := doubleRounds (roundCount r / 2) s
  serialize (Vector.ofFn fun i : Fin 16 => m[i] + s[i])

/-- The construction state from a key and a nonce (40_chacha.md rules R100, R101). -/
def chachaInit (key : Vector Word 8) (nonce : Vector Word 2) : Vector Word 16 :=
  #v[0x61707865#32, 0x3320646e#32, 0x79622d32#32, 0x6b206574#32,
    key[0], key[1], key[2], key[3], key[4], key[5], key[6], key[7],
    0#32, 0#32, nonce[0], nonce[1]]

/-- The block counter `cc.S[13] ++ cc.S[12]` (10_state.md rules R31, R35). -/
def blockCounter (s : Vector Word 16) : DWord := le64 s[12] s[13]

/-- The counter's increment: the low word wraps and carries into the high word (40_chacha.md rule R106). -/
def bumpCounter (s : Vector Word 16) : Vector Word 16 :=
  let low := s[12] + 1#32
  if low = 0#32 then (s.set 12 low).set 13 (s[13] + 1#32) else s.set 12 low

/-- `Regenerate()` (40_chacha.md rule R106): none where it raises CC_EXHAUSTED, and then nothing has changed. -/
def regenerate (u : Chacha) : Option Chacha :=
  if blockCounter u.words = 0xFFFFFFFFFFFFFFFF#64 then none
  else some { u with buf := chachaBlock u.words u.rnd, words := bumpCounter u.words }

/-- `Regenerate()` and then `cc.CUR <- 0`, where the condition holds (40_chacha.md rules R112, R113, R114). -/
def renewIf (c : Bool) (u : Chacha) : Option Chacha :=
  if c then (regenerate u).map fun v => { v with cur := 0#7 } else some u

/-- `cc.BUF[i]`. Past the buffer's end, where no read of a reachable state goes, it is 0 (log 10). -/
def bufByte (u : Chacha) (i : Nat) : Byte := u.buf.toList.getD i 0#8

/-- `LE32(cc.BUF[i .. i+4))` (40_chacha.md rule R112). -/
def bufWord (u : Chacha) (i : Nat) : Word :=
  le32 (bufByte u i) (bufByte u (i + 1)) (bufByte u (i + 2)) (bufByte u (i + 3))

/-- Whether a slice of `n` bytes would pass the end of the buffer (40_chacha.md rule R108). -/
def passesEnd (u : Chacha) (n : Nat) : Bool := decide (u.cur.toNat + n > 64)

/-- The byte loop of CC_FILL (40_chacha.md rule R114): the unit afterwards, and the bytes, or none where a byte needed a block and the
stream is exhausted. -/
def fillLoop : Nat → Chacha → Chacha × Option (List Byte)
  | 0, u => (u, some [])
  | n + 1, u =>
    match renewIf (decide (u.cur = 64#7)) u with
    | none => (u, none)
    | some v =>
      match fillLoop n { v with cur := v.cur + 1#7 } with
      | (w, bytes) => (w, bytes.map fun rest => bufByte v v.cur.toNat :: rest)

/-- The ChaCha unit that CC_LOAD constructs before its block is generated (40_chacha.md rules R101, R110). -/
def chachaLoaded (snap : Vector Word 10) (rnd : Rounds) (u : Chacha) : Chacha :=
  { u with
    words := chachaInit #v[snap[0], snap[1], snap[2], snap[3], snap[4], snap[5], snap[6], snap[7]] #v[snap[8], snap[9]]
    rnd := rnd }

/-- CC_LOAD (40_chacha.md rule R110). Its counter is 0, so Regenerate does not fault. -/
def execCcLoad (rnd : Rounds) (s : State) : Host.Outcome State Fault Refusal :=
  match regenerate (chachaLoaded s.seqSnap rnd s.cc) with
  | none => .next ((s.setCc (chachaLoaded s.seqSnap rnd s.cc)).raiseFault .ccExhausted 0#32)
  | some v => .next (s.setCc { v with cur := 0#7, seeded := true }).complete

/-- CC_NEXT32 (40_chacha.md rule R112). -/
def execCcNext32 (s : State) : Host.Outcome State Fault Refusal :=
  if s.cc.seeded then
    match renewIf (passesEnd s.cc 4) s.cc with
    | none => .next (s.raiseFault .ccExhausted 0#32)
    | some v =>
      .next ((s.setCc { v with cur := v.cur + 4#7 }).setOut (le64 (bufWord v v.cur.toNat) 0#32)).complete
  else .next (s.raiseFault .unseeded 0#32)

/-- CC_NEXT64 (40_chacha.md rule R113). -/
def execCcNext64 (s : State) : Host.Outcome State Fault Refusal :=
  if s.cc.seeded then
    match renewIf (passesEnd s.cc 8) s.cc with
    | none => .next (s.raiseFault .ccExhausted 0#32)
    | some v =>
      .next ((s.setCc { v with cur := v.cur + 8#7 }).setOut
        (le64 (bufWord v v.cur.toNat) (bufWord v (v.cur.toNat + 4)))).complete
  else .next (s.raiseFault .unseeded 0#32)

/-- CC_FILL (40_chacha.md rule R114). A LEN above 64, which decoding never lets through, faults as 30_encoding.md rule R87 says
(log 13). On exhaustion the bytes taken before the fault stay consumed and OUTBUF is not written. -/
def execCcFill (len : BitVec 8) (s : State) : Host.Outcome State Fault Refusal :=
  if lenOk len then
    if s.cc.seeded then
      match fillLoop len.toNat s.cc with
      | (u, none) => .next ((s.setCc u).raiseFault .ccExhausted 0#32)
      | (u, some bytes) => .next ((s.setCc u).setOutbuf bytes).complete
    else .next (s.raiseFault .unseeded 0#32)
  else .next (s.raiseFault .illegalCmd 3#32)

end Sys2Proof.Machine
end

