-- ==== Sys2Proof/Machine/Control.lean ====
section
/-! DEFINITION. The meaning of NOP (44_control.md rule R227). -/

namespace Sys2Proof.Machine

/-- NOP: completion only (44_control.md rule R227). -/
def execNop (s : State) : Host.Outcome State Fault Refusal := .next s.complete

end Sys2Proof.Machine
end

