-- ==== Sys2Proof/Machine/Entropy.lean ====
section
/-! DEFINITION. The entropy health guard (43_entropy.md): ProbeInData, the two continuous tests, and the meaning of ENT_FILL, one step
of rule R190 at a time. -/

namespace Sys2Proof.Machine

/-- `ProbeInData(probe, data, LEN)` (43_entropy.md rule R184): the smallest j in 0 .. LEN - 8 at which the 8 bytes stand, or none. -/
def probeInData (probe data : List Byte) (len : Nat) : Option Nat :=
  (List.range (len + 1 - Config.probeBytes)).find? fun j => (data.drop j).take Config.probeBytes == probe

/-- The counting part of `RctFeed` (43_entropy.md rule R185). -/
def rctUpdate (r : Rct) (x : Byte) : Rct :=
  if r.valid && x == r.value then { r with run := r.run + 1#3 }
  else { valid := true, value := x, run := 1#3 }

/-- Whether `RctFeed` raises ENT_RCT_FAIL after its update (43_entropy.md rule R185). -/
def rctFails (r : Rct) : Bool := decide (Config.rctCutoff ≤ r.run.toNat)

/-- The counting part of `AptFeed` (43_entropy.md rule R186): the 9-bit `n` counts modulo 512. -/
def aptUpdate (a : Apt) (x : Byte) : Apt :=
  let b :=
    if a.n = 0#9 then { a with value := x, count := 0#4 }
    else if x = a.value then { a with count := a.count + 1#4 }
    else a
  { b with n := a.n + 1#9 }

/-- Whether `AptFeed` raises ENT_APT_FAIL after its update (43_entropy.md rule R186). -/
def aptFails (a : Apt) : Bool := decide (Config.aptCutoff ≤ a.count.toNat)

/-- Step (d) of a fill (43_entropy.md rule R183): each byte of the tested stream to the RCT and then to the APT, from stream index `k`
on. The testers afterwards, and the first failure with its index. A byte that fails the RCT does not reach the APT (rule R187). -/
def feedTests : List Byte → Nat → Rct → Apt → Rct × Apt × Option (Cause × Nat)
  | [], _, r, a => (r, a, none)
  | x :: rest, k, r, a =>
    if rctFails (rctUpdate r x) then (rctUpdate r x, a, some (.entRctFail, k))
    else if aptFails (aptUpdate a x) then (rctUpdate r x, aptUpdate a x, some (.entAptFail, k))
    else feedTests rest (k + 1) (rctUpdate r x) (aptUpdate a x)

/-- Step (a) of a fill: whether the fresh probe is the previous one (43_entropy.md rule R183). -/
def probeRepeats (e : Ent) : Bool := e.prevValid && e.probe == e.prev

/-- Store the byte answered to request `ent.k` and count it (43_entropy.md rule R190). -/
def storeByte (e : Ent) (b : Byte) : Ent :=
  if e.k.toNat < Config.probeBytes then
    { e with probe := e.probe.setIfInBounds e.k.toNat b, k := e.k + 1#7 }
  else { e with data := e.data.setIfInBounds (e.k.toNat - Config.probeBytes) b, k := e.k + 1#7 }

/-- The last step of a fill: steps (c), (d), (e) and the completion (43_entropy.md rules R183, R187, R190). -/
def fillFinish (len : BitVec 8) (s : State) : State :=
  let data := s.ent.data.toList.take len.toNat
  match probeInData s.ent.probe.toList data len.toNat with
  | some j => s.raiseFault .entProbeInData (BitVec.ofNat 32 j)
  | none =>
    match feedTests (s.ent.probe.toList ++ data) 0 s.ent.rct s.ent.apt with
    | (r, a, some (c, k)) => (s.setEnt { s.ent with rct := r, apt := a }).raiseFault c (BitVec.ofNat 32 k)
    | (r, a, none) =>
      ((s.setEnt { s.ent with
          rct := r, apt := a, prev := s.ent.probe, prevValid := true, phase := .idle }).setOutbuf data).complete

/-- What a fill does in the same step once a byte is stored: step (a) after byte 8, and the last step after byte 8 + LEN
(43_entropy.md rule R190). -/
def fillAfterByte (len : BitVec 8) (s : State) : State :=
  if s.ent.k.toNat = Config.probeBytes then
    if probeRepeats s.ent then s.raiseFault .entProbeRepeat 0#32
    else if len.toNat = 0 then fillFinish len (s.setEnt { s.ent with phase := .data })
    else s.setEnt { s.ent with phase := .data }
  else if s.ent.k.toNat = Config.probeBytes + len.toNat then fillFinish len s
  else s

/-- ENT_FILL (43_entropy.md rules R183, R190), the step it takes in this state: the first core step, or the step of the source answer on
the port, which it takes off the port; with no answer there it waits. A LEN above 64, which decoding never lets through, faults as
30_encoding.md rule R87 says (log 13). -/
def execEntFill (len : BitVec 8) (s : State) : Host.Outcome State Fault Refusal :=
  if lenOk len then
    match s.ent.phase, s.port with
    | .idle, _ => .next (s.setEnt { s.ent with phase := .probe, k := 0#7 })
    | _, none => .next s
    | _, some .error => .next ((s.setPort none).raiseFault .entSourceFail (s.ent.k.setWidth 32))
    | _, some (.byte b) => .next (fillAfterByte len ((s.setPort none).setEnt (storeByte s.ent b)))
  else .next (s.raiseFault .illegalCmd 3#32)

end Sys2Proof.Machine
end

