-- ==== Sys2Proof/Machine/Pcg.lean ====
section
/-! DEFINITION. The PCG-128 engine (42_pcg.md): its step and output, and the meanings of PCG_LOAD, PCG_NEXT32 and PCG_NEXT64. -/

namespace Sys2Proof.Machine

/-- `PcgStep()` (42_pcg.md rule R161). The constant stands first so that the kernel never unfolds a product along it. -/
def pcgStep (u : Pcg) : Pcg := { u with state := Config.pcgMul * u.state + u.inc }

/-- `PcgOut(st)`: the xor of the halves rotated right by the top 6 bits (42_pcg.md rule R162). -/
def pcgOut (st : QWord) : DWord :=
  rotr64 (st.extractLsb' 64 64 ^^^ st.extractLsb' 0 64) (st.extractLsb' 122 6).toNat

/-- PCG_LOAD (42_pcg.md rule R165): increment from the stream value shifted left (90_conflicts.md C2), state 0, step, add the seed,
step. -/
def execPcgLoad (s : State) : Host.Outcome State Fault Refusal :=
  let fresh : Pcg := { state := 0#128, inc := (pcgStreamOperand s.seqSnap <<< 1) ||| 1#128, seeded := true }
  let once := pcgStep fresh
  .next (s.setPcg (pcgStep { once with state := once.state + pcgSeedOperand s.seqSnap })).complete

/-- PCG_NEXT32 (42_pcg.md rule R166): the low 32 bits of the output. -/
def execPcgNext32 (s : State) : Host.Outcome State Fault Refusal :=
  if s.pcg.seeded then
    .next ((s.setPcg (pcgStep s.pcg)).setOut (le64 (lo32 (pcgOut (pcgStep s.pcg).state)) 0#32)).complete
  else .next (s.raiseFault .unseeded 2#32)

/-- PCG_NEXT64 (42_pcg.md rule R167): the output of the state after the step (rule R163). -/
def execPcgNext64 (s : State) : Host.Outcome State Fault Refusal :=
  if s.pcg.seeded then .next ((s.setPcg (pcgStep s.pcg)).setOut (pcgOut (pcgStep s.pcg).state)).complete
  else .next (s.raiseFault .unseeded 2#32)

end Sys2Proof.Machine
end

