-- ==== Sys2Proof/Machine/SplitMix.lean ====
section
/-! DEFINITION. The SplitMix64 expander (41_xoshiro.md rules R143, R150, R151): its step, and the meanings of SM_LOAD and SM_NEXT64. -/

namespace Sys2Proof.Machine

/-- The state part of `SmStep`: `st + 0x9E3779B97F4A7C15` (41_xoshiro.md rule R143). Here and below the constant stands first, so that
the kernel never unfolds a sum or product along it. -/
def smAdvance (st : DWord) : DWord := Config.smGamma + st

/-- The output part of `SmStep`, on the state after the addition (41_xoshiro.md rule R143; the shifts 30 and 27 are general knowledge
G4, log 14). -/
def smMix (st : DWord) : DWord :=
  let z := Config.smMul1 * (st ^^^ (st >>> 30))
  let z := Config.smMul2 * (z ^^^ (z >>> 27))
  z ^^^ (z >>> 31)

/-- SM_LOAD (41_xoshiro.md rule R150). -/
def execSmLoad (s : State) : Host.Outcome State Fault Refusal :=
  .next (s.setSm { state := seedOperand s.seqSnap, seeded := true }).complete

/-- SM_NEXT64 (41_xoshiro.md rule R151). -/
def execSmNext64 (s : State) : Host.Outcome State Fault Refusal :=
  if s.sm.seeded then
    .next ((s.setSm { s.sm with state := smAdvance s.sm.state }).setOut (smMix (smAdvance s.sm.state))).complete
  else .next (s.raiseFault .unseeded 3#32)

end Sys2Proof.Machine
end

