-- ==== Sys2Proof/Machine/Xoshiro.lean ====
section
/-! DEFINITION. The xoshiro256++ generator (41_xoshiro.md): its output and transition, and the meanings of XO_LOAD, XO_SEED64, XO_NEXT32
and XO_NEXT64. -/

namespace Sys2Proof.Machine

/-- `XoOut(s0, s1, s2, s3)`, on the state before the transition (41_xoshiro.md rule R140). -/
def xoOut (u : Xoshiro) : DWord := rotl64 (u.s0 + u.s3) 23 + u.s0

/-- The state transition (41_xoshiro.md rule R141): each statement uses the values the ones before it left. -/
def xoTransition (u : Xoshiro) : Xoshiro :=
  let t := u.s1 <<< 17
  let s2 := u.s2 ^^^ u.s0
  let s3 := u.s3 ^^^ u.s1
  let s1 := u.s1 ^^^ s2
  let s0 := u.s0 ^^^ s3
  { u with s0 := s0, s1 := s1, s2 := s2 ^^^ t, s3 := rotl64 s3 45 }

/-- XO_LOAD (41_xoshiro.md rule R145). -/
def execXoLoad (s : State) : Host.Outcome State Fault Refusal :=
  let w0 := snap64 s.seqSnap 0 (by decide)
  let w1 := snap64 s.seqSnap 2 (by decide)
  let w2 := snap64 s.seqSnap 4 (by decide)
  let w3 := snap64 s.seqSnap 6 (by decide)
  if w0 = 0#64 ∧ w1 = 0#64 ∧ w2 = 0#64 ∧ w3 = 0#64 then .next (s.raiseFault .xoZeroSeed 0#32)
  else .next (s.setXo { s0 := w0, s1 := w1, s2 := w2, s3 := w3, seeded := true }).complete

/-- XO_SEED64 (41_xoshiro.md rule R146): four SplitMix64 outputs of a temporary, `sm.state` neither read nor written. -/
def execXoSeed64 (s : State) : Host.Outcome State Fault Refusal :=
  let st0 := smAdvance (seedOperand s.seqSnap)
  let st1 := smAdvance st0
  let st2 := smAdvance st1
  let st3 := smAdvance st2
  .next (s.setXo { s0 := smMix st0, s1 := smMix st1, s2 := smMix st2, s3 := smMix st3, seeded := true }).complete

/-- XO_NEXT32 (41_xoshiro.md rule R147): the low 32 bits of the output. -/
def execXoNext32 (s : State) : Host.Outcome State Fault Refusal :=
  if s.xo.seeded then
    .next ((s.setXo (xoTransition s.xo)).setOut (le64 (lo32 (xoOut s.xo)) 0#32)).complete
  else .next (s.raiseFault .unseeded 1#32)

/-- XO_NEXT64 (41_xoshiro.md rule R148). -/
def execXoNext64 (s : State) : Host.Outcome State Fault Refusal :=
  if s.xo.seeded then .next ((s.setXo (xoTransition s.xo)).setOut (xoOut s.xo)).complete
  else .next (s.raiseFault .unseeded 1#32)

end Sys2Proof.Machine
end

