-- ==== Sys2Proof/Machine/Dispatch.lean ====
section
/-! DEFINITION. One arm per command: the step the core takes on it (44_control.md rule R222). -/

namespace Sys2Proof.Machine

def exec (i : Instr) (s : State) : Host.Outcome State Fault Refusal :=
  match i with
  | .nop => Sys2Proof.Machine.execNop s
  | .ccLoad rnd => Sys2Proof.Machine.execCcLoad rnd s
  | .ccNext32 => Sys2Proof.Machine.execCcNext32 s
  | .ccNext64 => Sys2Proof.Machine.execCcNext64 s
  | .ccFill len => Sys2Proof.Machine.execCcFill len s
  | .xoLoad => Sys2Proof.Machine.execXoLoad s
  | .xoSeed64 => Sys2Proof.Machine.execXoSeed64 s
  | .xoNext32 => Sys2Proof.Machine.execXoNext32 s
  | .xoNext64 => Sys2Proof.Machine.execXoNext64 s
  | .pcgLoad => Sys2Proof.Machine.execPcgLoad s
  | .pcgNext32 => Sys2Proof.Machine.execPcgNext32 s
  | .pcgNext64 => Sys2Proof.Machine.execPcgNext64 s
  | .smLoad => Sys2Proof.Machine.execSmLoad s
  | .smNext64 => Sys2Proof.Machine.execSmNext64 s
  | .entFill len => Sys2Proof.Machine.execEntFill len s

end Sys2Proof.Machine
end

