-- ==== Sys2Proof/Machine/Sequencer.lean ====
section
/-! DEFINITION. The sequencer's step on the accepted command (44_control.md rule R222) and what each agent's move does (00_scope.md rule
R11, 70_reset_and_hazards.md rule R286). -/

namespace Sys2Proof.Machine

/-- The core's step on `seq.cmd` (44_control.md rule R222): decoding first (30_encoding.md rule R86), then the command's rule. -/
def runCommand (s : State) : Host.Outcome State Fault Refusal :=
  match decode s.seqCmd with
  | .ok i => exec i s
  | .error e => .next (s.raiseFault .illegalCmd (decodeInfo e))

/-- A turn of the core: the step on `seq.cmd` where a core step is enabled (44_control.md rule R225), and otherwise nothing (log 3). -/
def coreTurn (s : State) : Host.Outcome State Fault Refusal :=
  if coreEnabled s then runCommand s else .next s

/-- An answer of the source: the step of 43_entropy.md rule R190 on that byte or error, refused while `ent_req` = 0
(70_reset_and_hazards.md rule R271, R286). -/
def sourceAnswer (s : State) (ans : Answer) : Host.Outcome State Fault Refusal :=
  if entReq s then runCommand (s.setPort (some ans)) else .refused .answerWithoutRequest

/-- The reset input at a level (70_reset_and_hazards.md rules R270, R271): asserted, SMRC takes no step; released, it is reset. -/
def driveReset (s : State) (asserted : Bool) : State :=
  if asserted then { s with rst := true }
  else if s.rst then s.releaseReset
  else s

/-- What one move does. -/
def takeMove (m : Move) (s : State) : Host.Outcome State Fault Refusal :=
  match m with
  | .host a => hostAccess s a
  | .core => coreTurn s
  | .source ans => sourceAnswer s ans
  | .rst asserted => .next (driveReset s asserted)

/-- The next step: the first of the coming moves, which it takes off the list; with none left, a turn of the core, which leaves the
state as it is where no core step is enabled (log 1, 2). -/
def nextStep (s : State) : Host.Outcome State Fault Refusal :=
  match s.moves with
  | [] => coreTurn s
  | m :: rest => takeMove m { s with moves := rest }

/-- The state with the command word `v` accepted and the core to move next: how the sequencer comes to its next command (log 11). -/
def State.placeCommand (s : State) (v : Word) : State :=
  { s.accept v with rst := false, ent := { s.ent with phase := .idle }, moves := .core :: s.moves }

end Sys2Proof.Machine
end

