-- ==== Sys2Proof/Machine/Step.lean ====
section
/-! DEFINITION. The step of the machine, and the state in which the next step runs a given command word. -/

namespace Sys2Proof.Machine

/-- One step: the next move of an agent (00_scope.md rule R11). -/
def step (s : State) : Host.Outcome State Fault Refusal := nextStep s

/-- `s` with the command word of the table's `nbits` bits `w` accepted, so that the next step runs it (log 11). -/
def State.withFetchWord (s : State) (nbits w : Nat) : State := s.placeCommand (tableWord nbits w)

end Sys2Proof.Machine
end

