-- ==== Sys2Proof/Safety.lean ====
section
/-! DEFINITION. The terms claims are stated in: the sequencer's states and the end of a run (44_control.md rules R220, R229), the
invariants of the units, which state a command may write (10_state.md rule R41), and the source's answers of a whole fill. -/

namespace Sys2Proof.Machine

/-- The sequencer is IDLE: BUSY = 0, FAULT = 0 (44_control.md rule R220). -/
abbrev isIdle (s : State) : Prop := s.busy = false ∧ s.fault = false

/-- The sequencer is BUSY: BUSY = 1, FAULT = 0 (44_control.md rule R220). -/
abbrev isBusy (s : State) : Prop := s.busy = true ∧ s.fault = false

/-- The sequencer is FAULTED: FAULT = 1 and BUSY = 0 (44_control.md rule R220). -/
abbrev isFaulted (s : State) : Prop := s.fault = true ∧ s.busy = false

/-- Whether a move is a host's access. -/
def Move.isHost : Move → Bool
  | .host _ => true
  | .core | .source _ | .rst _ => false

/-- A run is final: no host access left, BUSY = 0, no fault (44_control.md rule R229). -/
abbrev isFinal (s : State) : Prop := s.moves.any Move.isHost = false ∧ s.busy = false ∧ s.fault = false

/-- A run is stuck: ENT_FILL waits on a source that does not answer, and no agent moves any more (00_scope.md rule R12, 44_control.md
rule R229). -/
abbrev isStuck (s : State) : Prop := s.moves = [] ∧ entReq s = true

/-- The next move releases the reset input. -/
abbrev releasesReset (s : State) : Prop := s.rst = true ∧ s.moves.head? = some (.rst false)

/-- An ENT_FILL in the middle of its bytes: the word of `seq.cmd` is a fill, requests are still to come, and the phase is PROBE for the
first 8 of them (43_entropy.md rules R182, R190). -/
def fillPending (s : State) : Bool :=
  match decode s.seqCmd with
  | .ok (.entFill len) =>
    decide (s.ent.k.toNat < 8 + len.toNat) && (decide (s.ent.phase = .probe) == decide (s.ent.k.toNat < 8))
  | _ => false

/-- What BUSY, FAULT, the fault registers and the fill's phase say of each other (44_control.md rules R220, R222; 10_state.md rule R26;
60_exceptions.md rule R242). -/
abbrev SeqInv (s : State) : Prop :=
  (s.fault = true → s.busy = false) ∧
  (s.fault = true ↔ s.cause ≠ none) ∧
  (s.fault = false → s.faultCmd = 0#32 ∧ s.faultInfo = 0#32) ∧
  (s.fault = false → s.busy = false → s.ent.phase = .idle) ∧
  (s.busy = true → s.ent.phase ≠ .idle → fillPending s = true) ∧
  s.port = none

/-- The words of a ChaCha state with the counter `c` (40_chacha.md rule R107). -/
def withCounter (w : Vector Word 16) (c : DWord) : Vector Word 16 := (w.set 12 (lo32 c)).set 13 (hi32 c)

/-- The cursor is at most 64; once loaded, the constants stand, the counter is not 0, and the buffer holds `Block(ctr - 1)` (10_state.md
rule R35, 40_chacha.md rules R107, R111). -/
abbrev ChachaInv (s : State) : Prop :=
  s.cc.cur.toNat ≤ 64 ∧
  (s.cc.seeded = true →
    s.cc.words[0] = 0x61707865#32 ∧ s.cc.words[1] = 0x3320646e#32 ∧
    s.cc.words[2] = 0x79622d32#32 ∧ s.cc.words[3] = 0x6b206574#32 ∧
    blockCounter s.cc.words ≠ 0#64 ∧
    s.cc.buf = chachaBlock (withCounter s.cc.words (blockCounter s.cc.words - 1#64)) s.cc.rnd)

/-- A seeded xoshiro state is not all zero (10_state.md rule R36, 41_xoshiro.md rule R144). -/
abbrev XoInv (s : State) : Prop :=
  s.xo.seeded = true → ¬(s.xo.s0 = 0#64 ∧ s.xo.s1 = 0#64 ∧ s.xo.s2 = 0#64 ∧ s.xo.s3 = 0#64)

/-- A seeded PCG's increment is odd (10_state.md rule R37). -/
abbrev PcgInv (s : State) : Prop := s.pcg.seeded = true → s.pcg.inc.getLsbD 0 = true

/-- The testers' counters stay in their bounds, and below the cutoffs while no fault is latched (43_entropy.md rule R189). -/
abbrev HealthInv (s : State) : Prop :=
  (s.fault = true → s.busy = false) ∧
  s.ent.rct.run.toNat ≤ 4 ∧ s.ent.apt.count.toNat ≤ 13 ∧
  (s.fault = false → s.ent.rct.run.toNat < 4 ∧ s.ent.apt.count.toNat < 13)

/-- The state a command may write (10_state.md rule R41): one name per group of the table's right column. -/
inductive Part where
  | cc
  | xo
  | pcg
  | sm
  | ent
  | out
  | outbuf
  deriving DecidableEq, Repr

/-- The groups in a command's row of 10_state.md rule R41, besides the sequencer's own state. -/
def writesOf : Instr → List Part
  | .nop => []
  | .ccLoad _ => [.cc]
  | .ccNext32 | .ccNext64 => [.cc, .out]
  | .ccFill _ => [.cc, .outbuf]
  | .xoLoad | .xoSeed64 => [.xo]
  | .xoNext32 | .xoNext64 => [.xo, .out]
  | .pcgLoad => [.pcg]
  | .pcgNext32 | .pcgNext64 => [.pcg, .out]
  | .smLoad => [.sm]
  | .smNext64 => [.sm, .out]
  | .entFill _ => [.ent, .outbuf]

/-- The fault causes and FAULT_INFO values of a legal command, as 60_exceptions.md rule R243 lists them. -/
def faultOf : Instr → Cause → Word → Bool
  | .ccNext32, c, i | .ccNext64, c, i | .ccFill _, c, i =>
    (c == .unseeded && i == 0#32) || (c == .ccExhausted && i == 0#32)
  | .xoNext32, c, i | .xoNext64, c, i => c == .unseeded && i == 1#32
  | .pcgNext32, c, i | .pcgNext64, c, i => c == .unseeded && i == 2#32
  | .smNext64, c, i => c == .unseeded && i == 3#32
  | .xoLoad, c, i => c == .xoZeroSeed && i == 0#32
  | .entFill len, c, i =>
    (c == .entSourceFail && decide (i.toNat < 8 + len.toNat)) || (c == .entProbeRepeat && i == 0#32)
      || (c == .entProbeInData && decide (i.toNat + 8 ≤ len.toNat))
      || ((c == .entRctFail || c == .entAptFail) && decide (i.toNat < 8 + len.toNat))
  | .nop, _, _ | .ccLoad _, _, _ | .xoSeed64, _, _ | .pcgLoad, _, _ | .smLoad, _, _ => false

/-- The source's answers that give these bytes, in request order (43_entropy.md rule R182). -/
def byteAnswers (bytes : List Byte) : List Move := bytes.map fun b => .source (.byte b)

/-- The access `MemWrite(P_BASE + off, 4, v)` of host `h` (00_scope.md rule R10). -/
def writeAt (s : State) (h off : Nat) (v : Word) : Move :=
  .host { host := h, addr := pBase s + off, bytes := 4, kind := .write v }

/-- The access `MemRead(P_BASE + off, 4)` of host `h` (00_scope.md rule R10). -/
def readAt (s : State) (h off : Nat) : Move :=
  .host { host := h, addr := pBase s + off, bytes := 4, kind := .read }

end Sys2Proof.Machine
end

