-- ==== Sys2Proof/Certificates/Slice0/Obligations.lean ====
section
/-! DEFINITION. The statements for the provers. Each docstring names the rule of spec/ it formalises; basis, tier and cites stand in
OBLIGATIONS.json. -/

open Sys2Proof Sys2Proof.Machine

/-! ### Encoding -/

/-- Decoding the word of a legal command gives the command back (30_encoding.md rules R81 to R84). -/
def Obligations.DecodeOfEncode : Prop :=
  ∀ i : Instr, i.wellFormed = true → decode (encode i) = .ok i

/-- A word that decodes is the word of the command it decodes to, which is legal: no word has two forms (R84, R88). -/
def Obligations.EncodeOfDecode : Prop :=
  ∀ (w : Word) (i : Instr), decode w = .ok i → i.wellFormed = true ∧ encode i = w

/-- 30_encoding.md rule R86: the decoding checks in their order, each raising ILLEGAL_CMD with its info and doing nothing else of the
command; a word that passes them all is dispatched to the command whose word it is. -/
def Obligations.DecodeChecksInOrder : Prop :=
  ∀ s : State,
    let w := s.seqCmd
    let op := (w.extractLsb' 0 8).toNat
    let z : List Nat := [0x00, 0x02, 0x03, 0x10, 0x11, 0x12, 0x13, 0x20, 0x21, 0x22, 0x30, 0x31]
    let l : List Nat := [0x04, 0x40]
    let r : List Nat := [0x01]
    let reserved : Prop := (op ∈ z ∧ w.extractLsb' 8 24 ≠ 0#24) ∨ (op ∈ l ∧ w.extractLsb' 16 16 ≠ 0#16) ∨
      (op ∈ r ∧ w.extractLsb' 10 22 ≠ 0#22)
    let badLen : Prop := op ∈ l ∧ 64 < (w.extractLsb' 8 8).toNat
    let badRnd : Prop := op ∈ r ∧ w.extractLsb' 8 2 = 3#2
    (op ∉ z ++ l ++ r → runCommand s = .next (s.raiseFault .illegalCmd 1#32)) ∧
    (reserved → runCommand s = .next (s.raiseFault .illegalCmd 2#32)) ∧
    (¬reserved → badLen → runCommand s = .next (s.raiseFault .illegalCmd 3#32)) ∧
    (¬reserved → badRnd → runCommand s = .next (s.raiseFault .illegalCmd 4#32)) ∧
    (op ∈ z ++ l ++ r → ¬reserved → ¬badLen → ¬badRnd →
      ∃ i, encode i = w ∧ decode w = .ok i ∧ runCommand s = exec i s)

/-- Some words written out from the formats and the opcode map decode to their commands (R81 to R84). -/
def Obligations.KnownWordsDecode : Prop :=
  decode 0b00000000000000000000000000000000#32 = .ok .nop ∧
  decode 0b00000000000000000000001000000001#32 = .ok (.ccLoad .r20) ∧
  decode 0b00000000000000000011111000000100#32 = .ok (.ccFill 62#8) ∧
  decode 0b00000000000000000000000000010011#32 = .ok .xoNext64 ∧
  decode 0b00000000000000000000000000100010#32 = .ok .pcgNext64 ∧
  decode 0b00000000000000000000000000110001#32 = .ok .smNext64 ∧
  decode 0b00000000000000000010000001000000#32 = .ok (.entFill 32#8)

/-! ### The step and the sequencer -/

/-- A step is the first of the coming moves (log 1), taken off the list, and with none left a turn of the core (log 2). It runs the decoded
command: on a turn of the core where a core step is enabled, and on a source answer, with the answer on the port (log 9), where one is
requested. A turn of the core where none is enabled changes nothing (log 3); a host's access is `hostAccess`; a source answer is
`sourceAnswer` (00_scope.md rule R11, 20_memory.md rule R65, 44_control.md rules R222, R225). Asserting `rst` changes its level alone, which
is inferred from 70_reset_and_hazards.md rules R270, R271, and releasing it where it is not asserted, of which the spec says nothing, changes
nothing: both are the model's (log 18). -/
def Obligations.StepRunsDecodedCommand : Prop :=
  (∀ (s : State) (i : Instr) (rest : List Move) (ans : Answer), decode s.seqCmd = .ok i →
    (s.moves = .core :: rest → coreEnabled s = true → step s = exec i { s with moves := rest }) ∧
    (s.moves = [] → coreEnabled s = true → step s = exec i s) ∧
    (s.moves = .source ans :: rest → entReq s = true → step s = exec i { s with moves := rest, port := some ans })) ∧
  (∀ s : State, s.moves = [] → step s = coreTurn s) ∧
  (∀ (s : State) (rest : List Move), s.moves = .core :: rest → step s = coreTurn { s with moves := rest }) ∧
  (∀ s : State, (coreEnabled s = true → coreTurn s = runCommand s) ∧ (coreEnabled s = false → coreTurn s = .next s)) ∧
  (∀ (s : State) (a : Access) (rest : List Move), s.moves = .host a :: rest → step s = hostAccess { s with moves := rest } a) ∧
  (∀ (s : State) (ans : Answer) (rest : List Move), s.moves = .source ans :: rest →
    step s = sourceAnswer { s with moves := rest } ans) ∧
  (∀ (s : State) (rest : List Move), s.moves = .rst true :: rest → step s = .next { s with moves := rest, rst := true }) ∧
  (∀ (s : State) (rest : List Move), s.rst = false → s.moves = .rst false :: rest → step s = .next { s with moves := rest })

/-- 44_control.md rule R221: a host's CMD write in IDLE is accepted, and decodes nothing. -/
def Obligations.CmdWriteInIdleAccepted : Prop :=
  ∀ (s : State) (h : Nat) (v : Word), s.rst = false → isIdle s →
    hostAccess s { host := h, addr := pBase s + 0x00C, bytes := 4, kind := .write v } =
      .next { s with seqCmd := v, seqSnap := s.seed, lastCmd := v, busy := true }

/-- 44_control.md rule R223: a CMD write in BUSY only sets OVR, in FAULTED it changes nothing; OVR stays until a STATUS write with bit 2
set or a reset. -/
def Obligations.CmdWriteDropped : Prop :=
  (∀ (s : State) (h : Nat) (v : Word), s.rst = false → isBusy s →
    hostAccess s { host := h, addr := pBase s + 0x00C, bytes := 4, kind := .write v } = .next { s with ovr := true }) ∧
  (∀ (s : State) (h : Nat) (v : Word), s.rst = false → isFaulted s →
    hostAccess s { host := h, addr := pBase s + 0x00C, bytes := 4, kind := .write v } = .next s) ∧
  (∀ s t : State, step s = .next t → s.ovr = true → t.ovr = false →
    releasesReset s ∨ ∃ h v, s.moves.head? = some (writeAt s h 0x008 v) ∧ v.getLsbD 2 = true)

/-- 44_control.md rules R222, R225: a turn of the core with a command other than ENT_FILL, legal or not, ends it, completed or faulted. -/
def Obligations.OtherCommandsEndInOneStep : Prop :=
  ∀ s : State, coreEnabled s = true → (∀ len, decode s.seqCmd ≠ .ok (.entFill len)) →
    ∃ t, coreTurn s = .next t ∧ t.busy = false

/-- 00_scope.md rule R12, 44_control.md rule R229: a stuck state stays as it is for any number of steps (log 2). -/
def Obligations.StuckStaysStuck : Prop :=
  ∀ (s : State) (n : Nat), isStuck s → core.run n s = .next s

/-! ### The register window -/

/-- 20_memory.md rules R62, R63: in the window and out of reset, an access is admitted exactly where it is 32 bits wide at a multiple of
4, and any other is refused, so that it changes no state (the refusal's name is the model's, log 6). -/
def Obligations.OnlyAlignedWordsAdmitted : Prop :=
  ∀ (s : State) (h off n : Nat) (k : AccessKind), s.rst = false → off < 4096 →
    ((n = 4 ∧ off % 4 = 0) →
      hostAccess s { host := h, addr := pBase s + off, bytes := n, kind := k } = .next (admitted s off k)) ∧
    (¬(n = 4 ∧ off % 4 = 0) →
      hostAccess s { host := h, addr := pBase s + off, bytes := n, kind := k } = .refused .badAccess)

/-- An address outside the window faults (20_memory.md rule R60; the fault is the model's, log 6), and no access depends on which host makes
it (60_exceptions.md rules R249, R252). -/
def Obligations.WindowBoundsAndHosts : Prop :=
  (∀ (s : State) (a : Access), a.addr < pBase s ∨ pBase s + 4096 ≤ a.addr → hostAccess s a = .fault .outsideWindow) ∧
  (∀ (s : State) (a : Access) (h : Nat), hostAccess s { a with host := h } = hostAccess s a)

/-- 10_state.md rule R20 with rules R21, R22, R25 to R29, R31 and R34: which register stands at each offset of the map; what each reads, but
for STATUS, FAULT_CAUSE, ENT_RCT and ENT_APT, whose fields FlagAndDebugFields gives; and that every offset not in the map reads 0. -/
def Obligations.RegisterMapReads : Prop :=
  ∀ s : State,
    readReg s (regAt 0x000) = 0x534D5243#32 ∧ readReg s (regAt 0x004) = 0x00010000#32 ∧
    readReg s (regAt 0x00C) = s.lastCmd ∧ readReg s (regAt 0x014) = s.faultCmd ∧
    readReg s (regAt 0x018) = s.faultInfo ∧ readReg s (regAt 0x080) = s.outLo ∧ readReg s (regAt 0x084) = s.outHi ∧
    readReg s (regAt 0x100) = s.cc.words[12] ∧ readReg s (regAt 0x104) = s.cc.words[13] ∧
    (readReg s (regAt 0x108)).toNat = s.cc.cur.toNat ∧
    (∀ i : Fin 10, readReg s (regAt (0x040 + 4 * i.val)) = s.seed[i]) ∧
    (∀ j : Fin 16, readReg s (regAt (0x0C0 + 4 * j.val)) = s.outbuf[4 * j.val + 3]'(by omega) ++ s.outbuf[4 * j.val + 2]'(by omega)
      ++ s.outbuf[4 * j.val + 1]'(by omega) ++ s.outbuf[4 * j.val]'(by omega)) ∧
    regAt 0x008 = .status ∧ regAt 0x010 = .faultCause ∧ regAt 0x140 = .entRct ∧ regAt 0x144 = .entApt ∧
    (∀ off : Nat, off % 4 = 0 → off < 4096 →
      off ∉ [0x000, 0x004, 0x008, 0x00C, 0x010, 0x014, 0x018, 0x080, 0x084, 0x100, 0x104, 0x108, 0x140, 0x144] →
      ¬(0x040 ≤ off ∧ off ≤ 0x064) → ¬(0x0C0 ≤ off ∧ off ≤ 0x0FC) → readReg s (regAt off) = 0#32)

/-- Every bit of STATUS (CC_RND never 3), ENT_RCT, ENT_APT and FAULT_CAUSE as read (10_state.md rules R23, R26, R32, R33). -/
def Obligations.FlagAndDebugFields : Prop :=
  ∀ s : State,
    let w := readReg s (regAt 0x008)
    w.getLsbD 0 = s.busy ∧ w.getLsbD 1 = s.fault ∧ w.getLsbD 2 = s.ovr ∧ w.getLsbD 3 = false ∧
    w.getLsbD 4 = s.cc.seeded ∧ w.getLsbD 5 = s.xo.seeded ∧ w.getLsbD 6 = s.pcg.seeded ∧ w.getLsbD 7 = s.sm.seeded ∧
    w.getLsbD 8 = s.ent.prevValid ∧
    (w.extractLsb' 9 2).toNat = (match s.cc.rnd with | .r8 => 0 | .r12 => 1 | .r20 => 2) ∧
    w.extractLsb' 11 21 = 0#21 ∧
    (readReg s (regAt 0x140)).extractLsb' 0 8 = s.ent.rct.value ∧ (readReg s (regAt 0x140)).getLsbD 8 = s.ent.rct.valid ∧
    (readReg s (regAt 0x140)).extractLsb' 9 7 = 0#7 ∧ (readReg s (regAt 0x140)).extractLsb' 16 3 = s.ent.rct.run ∧
    (readReg s (regAt 0x140)).extractLsb' 19 13 = 0#13 ∧
    (readReg s (regAt 0x144)).extractLsb' 0 8 = s.ent.apt.value ∧ (readReg s (regAt 0x144)).extractLsb' 8 4 = s.ent.apt.count ∧
    (readReg s (regAt 0x144)).extractLsb' 12 4 = 0#4 ∧ (readReg s (regAt 0x144)).extractLsb' 16 9 = s.ent.apt.n ∧
    (readReg s (regAt 0x144)).extractLsb' 25 7 = 0#7 ∧
    readReg s (regAt 0x010) = (match s.cause with
      | none => 0#32 | some .illegalCmd => 1#32 | some .unseeded => 2#32 | some .xoZeroSeed => 3#32
      | some .ccExhausted => 4#32 | some .entSourceFail => 5#32 | some .entProbeRepeat => 6#32
      | some .entProbeInData => 7#32 | some .entRctFail => 8#32 | some .entAptFail => 9#32)

/-- 10_state.md rule R29, 20_memory.md rule R61: byte x of the window's OUTBUF range is byte x of OUTBUF, and every register reads the
little-endian word of its four bytes. -/
def Obligations.WindowIsLittleEndian : Prop :=
  (∀ (s : State) (x : Fin 64), windowByte s (0x0C0 + x.val) = s.outbuf[x] ∧
    (readReg s (regAt (0x0C0 + 4 * (x.val / 4)))).extractLsb' (8 * (x.val % 4)) 8 = s.outbuf[x]) ∧
  (∀ (s : State) (off : Nat), off % 4 = 0 → readReg s (regAt off) =
    windowByte s (off + 3) ++ windowByte s (off + 2) ++ windowByte s (off + 1) ++ windowByte s off)

/-- 20_memory.md rule R66: a read changes no SMRC state (`rdata` is the model's own field, log 8) and two reads in a row answer the same;
a write to CMD issues, one to STATUS clears OVR when bit 2 is 1, one to SEEDn stores, every other is ignored; two equal CMD writes in a
row from IDLE are not one. -/
def Obligations.AccessEffects : Prop :=
  (∀ (s : State) (off : Nat), admitted s off .read = { s with rdata := some (readReg s (regAt off)) } ∧
    (admitted (admitted s off .read) off .read).rdata = (admitted s off .read).rdata) ∧
  (∀ (s : State) (v : Word), admitted s 0x00C (.write v) = issue s v) ∧
  (∀ (s : State) (v : Word), admitted s 0x008 (.write v) = { s with ovr := s.ovr && !v.getLsbD 2 }) ∧
  (∀ (s : State) (n : Fin 10) (v : Word), admitted s (0x040 + 4 * n.val) (.write v) = { s with seed := s.seed.set n v }) ∧
  (∀ (s : State) (off : Nat) (v : Word), off % 4 = 0 → off ≠ 0x00C → off ≠ 0x008 → ¬(0x040 ≤ off ∧ off ≤ 0x064) →
    admitted s off (.write v) = s) ∧
  (∀ (s : State) (v : Word), isIdle s → s.ovr = false → issue (issue s v) v ≠ issue s v)

/-- 20_memory.md rule R70, 44_control.md rule R226: a SEED write changes nothing of what the accepted command does, in any state. -/
def Obligations.SeedWritesDoNotReachCommand : Prop :=
  ∀ (s : State) (i : Instr) (seed : Vector Word 10),
    ∃ t, exec i s = .next t ∧ exec i { s with seed := seed } = .next { t with seed := seed }

/-! ### Faults and reset -/

/-- 60_exceptions.md rule R242: the fault step writes exactly the latch and BUSY, a command that faults leaves the result registers, the
seeded bits and CC_RND as they were, and only a release of reset clears FAULT. -/
def Obligations.FaultStepAndResults : Prop :=
  (∀ (s : State) (c : Cause) (info : Word), s.raiseFault c info =
    { s with fault := true, cause := some c, faultCmd := s.seqCmd, faultInfo := info, busy := false }) ∧
  (∀ (i : Instr) (s t : State), exec i s = .next t → s.fault = false → t.fault = true →
    t.busy = false ∧ t.faultCmd = s.seqCmd ∧ t.outLo = s.outLo ∧ t.outHi = s.outHi ∧ t.outbuf = s.outbuf ∧
    t.cc.seeded = s.cc.seeded ∧ t.cc.rnd = s.cc.rnd ∧ t.xo.seeded = s.xo.seeded ∧ t.pcg.seeded = s.pcg.seeded ∧
    t.sm.seeded = s.sm.seeded ∧ t.ent.prevValid = s.ent.prevValid) ∧
  (∀ s t : State, step s = .next t → s.fault = true → t.fault = true ∨ releasesReset s)

/-- 60_exceptions.md rule R243: which causes and FAULT_INFO values each legal command can raise; for ENT_FILL, while it waits for one of
its 8 + LEN bytes. -/
def Obligations.FaultCausesOfCommands : Prop :=
  ∀ (i : Instr) (s t : State), i.wellFormed = true →
    (∀ len, i = .entFill len → s.ent.k.toNat < 8 + len.toNat) →
    exec i s = .next t → s.fault = false → t.fault = true →
    ∃ c, t.cause = some c ∧ faultOf i c t.faultInfo = true

/-- 60_exceptions.md rule R244: the eight generator commands fault UNSEEDED with their unit's number where the unit is not seeded, before
anything else; the load commands, NOP and ENT_FILL never raise it. -/
def Obligations.UnseededCheck : Prop :=
  (∀ s : State, s.cc.seeded = false →
    exec .ccNext32 s = .next (s.raiseFault .unseeded 0#32) ∧ exec .ccNext64 s = .next (s.raiseFault .unseeded 0#32) ∧
    ∀ len, (Instr.ccFill len).wellFormed = true → exec (.ccFill len) s = .next (s.raiseFault .unseeded 0#32)) ∧
  (∀ s : State, s.xo.seeded = false →
    exec .xoNext32 s = .next (s.raiseFault .unseeded 1#32) ∧ exec .xoNext64 s = .next (s.raiseFault .unseeded 1#32)) ∧
  (∀ s : State, s.pcg.seeded = false →
    exec .pcgNext32 s = .next (s.raiseFault .unseeded 2#32) ∧ exec .pcgNext64 s = .next (s.raiseFault .unseeded 2#32)) ∧
  (∀ s : State, s.sm.seeded = false → exec .smNext64 s = .next (s.raiseFault .unseeded 3#32)) ∧
  (∀ (i : Instr) (s t : State),
    (i = .nop ∨ (∃ r, i = .ccLoad r) ∨ i = .xoLoad ∨ i = .xoSeed64 ∨ i = .pcgLoad ∨ i = .smLoad ∨ ∃ len, i = .entFill len) →
    exec i s = .next t → t.cause = some .unseeded → s.cause = some .unseeded)

/-- 60_exceptions.md rule R246: in FAULTED, until reset is released, no step changes a unit, a result, the latch, the sequencer's words or
sets OVR; and SEED writes, STATUS writes and reads are still accepted. -/
def Obligations.FaultedIsTerminal : Prop :=
  (∀ s t : State, isFaulted s → step s = .next t → ¬releasesReset s →
    isFaulted t ∧ t.cc = s.cc ∧ t.xo = s.xo ∧ t.pcg = s.pcg ∧ t.sm = s.sm ∧ t.ent = s.ent ∧ t.outLo = s.outLo ∧
    t.outHi = s.outHi ∧ t.outbuf = s.outbuf ∧ t.cause = s.cause ∧ t.faultCmd = s.faultCmd ∧ t.faultInfo = s.faultInfo ∧
    t.lastCmd = s.lastCmd ∧ t.seqCmd = s.seqCmd ∧ t.seqSnap = s.seqSnap ∧ (t.ovr = true → s.ovr = true)) ∧
  (∀ (s : State) (h off : Nat) (k : AccessKind), isFaulted s → s.rst = false → off < 4096 → off % 4 = 0 →
    hostAccess s { host := h, addr := pBase s + off, bytes := 4, kind := k } = .next (admitted s off k))

/-- 10_state.md rule R42, 70_reset_and_hazards.md rules R270, R271: releasing `rst` gives every piece of state the value of the table,
whatever command was running; the window's place and the coming moves are not SMRC's (log 4, 1), and `port` and `rdata` are as log 9 and 8
say; reset as a level is log 18. -/
def Obligations.ReleaseOfResetClearsAll : Prop :=
  ∀ (s : State) (rest : List Move), s.rst = true → s.moves = .rst false :: rest →
    ∃ t, step s = .next t ∧ isIdle t ∧ t.ovr = false ∧ t.lastCmd = 0#32 ∧ readReg t (regAt 0x010) = 0#32 ∧
    t.faultCmd = 0#32 ∧ t.faultInfo = 0#32 ∧ (∀ i : Fin 10, t.seed[i] = 0#32 ∧ t.seqSnap[i] = 0#32) ∧ t.seqCmd = 0#32 ∧
    t.outLo = 0#32 ∧ t.outHi = 0#32 ∧ (∀ i : Fin 64, t.outbuf[i] = 0#8 ∧ t.cc.buf[i] = 0#8 ∧ t.ent.data[i] = 0#8) ∧
    (∀ i : Fin 16, t.cc.words[i] = 0#32) ∧ t.cc.cur = 0#7 ∧ t.cc.rnd = .r8 ∧ t.cc.seeded = false ∧
    t.xo = { s0 := 0#64, s1 := 0#64, s2 := 0#64, s3 := 0#64, seeded := false } ∧
    t.pcg = { state := 0#128, inc := 0#128, seeded := false } ∧ t.sm = { state := 0#64, seeded := false } ∧
    (∀ i : Fin 8, t.ent.prev[i] = 0#8 ∧ t.ent.probe[i] = 0#8) ∧ t.ent.prevValid = false ∧
    t.ent.rct = { valid := false, value := 0#8, run := 0#3 } ∧ t.ent.apt = { value := 0#8, count := 0#4, n := 0#9 } ∧
    t.ent.phase = .idle ∧ t.ent.k = 0#7 ∧ t.rst = false ∧ t.windowPage = s.windowPage ∧ t.moves = rest

/-- While `rst` is asserted the outputs are 0, every access to the window is refused, and every step that does not release it leaves all but
the list of moves as it is (70_reset_and_hazards.md rule R270; that only the list changes is inferred from it, log 18; the refusals' names
are the model's, log 7); out of reset `fault_o` is STATUS.FAULT (60_exceptions.md rule R248), and an answer with no request outstanding is
refused (70_reset_and_hazards.md rules R271, R286). -/
def Obligations.AssertedResetHolds : Prop :=
  (∀ s : State, s.rst = true →
    entReq s = false ∧ faultOut s = false ∧
    (∀ a : Access, pBase s ≤ a.addr → a.addr < pBase s + 4096 → hostAccess s a = .refused .accessInReset) ∧
    (∀ ans, sourceAnswer s ans = .refused .answerWithoutRequest) ∧
    (∀ t, step s = .next t → releasesReset s ∨ t = { s with moves := t.moves })) ∧
  (∀ s : State, s.rst = false → faultOut s = (readReg s (regAt 0x008)).getLsbD 1 ∧
    ((s.busy = false ∨ s.ent.phase = .idle) → ∀ ans, sourceAnswer s ans = .refused .answerWithoutRequest))

/-! ### Invariants -/

/-- The state after reset meets every invariant below. -/
def Obligations.ResetMeetsInvariants : Prop :=
  SeqInv State.reset ∧ ChachaInv State.reset ∧ XoInv State.reset ∧ PcgInv State.reset ∧ HealthInv State.reset

/-- Every step keeps what BUSY, FAULT, the fault registers, the fill's phase and the source port say of each other (44_control.md rules
R220, R222; 10_state.md rule R26; 43_entropy.md rule R190; the port's part is log 9). -/
def Obligations.StepKeepsSequencerInvariant : Prop :=
  ∀ s t : State, SeqInv s → step s = .next t → SeqInv t

/-- Every step keeps the ChaCha unit's invariant: the cursor at most 64, and once loaded, the buffer the block of the counter before
(10_state.md rule R35, 40_chacha.md rule R107). -/
def Obligations.StepKeepsKeystreamInvariant : Prop :=
  ∀ s t : State, ChachaInv s → step s = .next t → ChachaInv t

/-- Every step keeps a seeded xoshiro state from being all zero (10_state.md rule R36, 41_xoshiro.md rule R144, which rests on the
spec's general knowledge G5, log 14) and a seeded PCG's increment odd (10_state.md rule R37). -/
def Obligations.StepKeepsGeneratorsValid : Prop :=
  (∀ s t : State, XoInv s → step s = .next t → XoInv t) ∧ (∀ s t : State, PcgInv s → step s = .next t → PcgInv t)

/-- Every step keeps the testers' counters in their bounds (43_entropy.md rule R189). -/
def Obligations.StepKeepsHealthBounds : Prop :=
  ∀ s t : State, HealthInv s → step s = .next t → HealthInv t

/-! ### Frames -/

/-- 10_state.md rule R41: a command writes no unit and no result register outside its row of the table, and never SEED, LAST_CMD, OVR,
`seq.*`, the reset input or the model's own fields; the fault registers only with a fault. -/
def Obligations.CommandsWriteTheirRowOnly : Prop :=
  ∀ (i : Instr) (s t : State), exec i s = .next t →
    (.cc ∉ writesOf i → t.cc = s.cc) ∧ (.xo ∉ writesOf i → t.xo = s.xo) ∧ (.pcg ∉ writesOf i → t.pcg = s.pcg) ∧
    (.sm ∉ writesOf i → t.sm = s.sm) ∧ (.ent ∉ writesOf i → t.ent = s.ent ∧ t.port = s.port) ∧
    (.out ∉ writesOf i → t.outLo = s.outLo ∧ t.outHi = s.outHi) ∧ (.outbuf ∉ writesOf i → t.outbuf = s.outbuf) ∧
    t.seed = s.seed ∧ t.lastCmd = s.lastCmd ∧ t.ovr = s.ovr ∧ t.seqCmd = s.seqCmd ∧ t.seqSnap = s.seqSnap ∧ t.rst = s.rst ∧
    t.rdata = s.rdata ∧ t.windowPage = s.windowPage ∧ t.moves = s.moves ∧
    ((t.fault = s.fault ∧ t.cause = s.cause ∧ t.faultCmd = s.faultCmd ∧ t.faultInfo = s.faultInfo) ∨
      (t.fault = true ∧ t.cause ≠ none ∧ t.faultCmd = s.seqCmd ∧ t.busy = false))

/-- What the window shows of a generator's NEXT command: every byte but those of STATUS, the fault registers, OUT_LO, OUT_HI and, for
ChaCha, the three debug views reads as before; the secret words of the ChaCha state are unchanged (10_state.md rules R20, R41; 40_chacha.md
rule R111). -/
def Obligations.NextCommandsWindowFrame : Prop :=
  ∀ (i : Instr) (s t : State),
    i ∈ [.ccNext32, .ccNext64, .xoNext32, .xoNext64, .pcgNext32, .pcgNext64, .smNext64] → exec i s = .next t →
    (∀ x : Nat, ¬(0x008 ≤ x ∧ x < 0x00C) → ¬(0x010 ≤ x ∧ x < 0x01C) → ¬(0x080 ≤ x ∧ x < 0x088) →
      (¬(0x100 ≤ x ∧ x < 0x10C) ∨ (i ≠ .ccNext32 ∧ i ≠ .ccNext64)) → windowByte t x = windowByte s x) ∧
    (∀ n : Fin 16, n.val ≠ 12 → n.val ≠ 13 → t.cc.words[n] = s.cc.words[n])

/-- What the window shows of the load commands and NOP: every byte but those of STATUS, the fault registers and, for CC_LOAD, the ChaCha
debug views reads as before (10_state.md rules R20, R41). -/
def Obligations.LoadCommandsWindowFrame : Prop :=
  ∀ (i : Instr) (s t : State),
    i ∈ [.nop, .ccLoad .r8, .ccLoad .r12, .ccLoad .r20, .xoLoad, .xoSeed64, .pcgLoad, .smLoad] → exec i s = .next t →
    ∀ x : Nat, ¬(0x008 ≤ x ∧ x < 0x00C) → ¬(0x010 ≤ x ∧ x < 0x01C) →
      (¬(0x100 ≤ x ∧ x < 0x10C) ∨ .cc ∉ writesOf i) → windowByte t x = windowByte s x

/-- What the window shows of a fill: every byte but those of STATUS, the fault registers, OUTBUF and the unit's own debug views reads as
before; in a completed fill of LEN bytes, OUTBUF's bytes from LEN on read 0 (10_state.md rules R20, R29, R41). -/
def Obligations.FillCommandsWindowFrame : Prop :=
  ∀ (len : BitVec 8) (s t : State), (Instr.ccFill len).wellFormed = true →
    (exec (.ccFill len) s = .next t →
      (∀ x : Nat, ¬(0x008 ≤ x ∧ x < 0x00C) → ¬(0x010 ≤ x ∧ x < 0x01C) → ¬(0x0C0 ≤ x ∧ x < 0x10C) →
        windowByte t x = windowByte s x) ∧
      (s.fault = false → t.fault = false → ∀ x : Nat, len.toNat ≤ x → x < 64 → windowByte t (0x0C0 + x) = 0#8)) ∧
    (exec (.entFill len) s = .next t →
      (∀ x : Nat, ¬(0x008 ≤ x ∧ x < 0x00C) → ¬(0x010 ≤ x ∧ x < 0x01C) → ¬(0x0C0 ≤ x ∧ x < 0x100) →
        ¬(0x140 ≤ x ∧ x < 0x148) → windowByte t x = windowByte s x) ∧
      (s.busy = true → t.fault = false → t.busy = false →
        ∀ x : Nat, len.toNat ≤ x → x < 64 → windowByte t (0x0C0 + x) = 0#8))

/-- No command reads a unit outside its row: with another state in such a unit it does the same (40_chacha.md rule R115, 41_xoshiro.md rule
R152, 42_pcg.md rule R168, 43_entropy.md rule R180). -/
def Obligations.UnitsDoNotInterfere : Prop :=
  ∀ (i : Instr) (s : State), ∃ t, exec i s = .next t ∧
    (.cc ∉ writesOf i → ∀ u, exec i { s with cc := u } = .next { t with cc := u }) ∧
    (.xo ∉ writesOf i → ∀ u, exec i { s with xo := u } = .next { t with xo := u }) ∧
    (.pcg ∉ writesOf i → ∀ u, exec i { s with pcg := u } = .next { t with pcg := u }) ∧
    (.sm ∉ writesOf i → ∀ u, exec i { s with sm := u } = .next { t with sm := u }) ∧
    (.ent ∉ writesOf i → ∀ u, exec i { s with ent := u } = .next { t with ent := u })

/-! ### NOP -/

/-- 44_control.md rule R227: NOP completes and does nothing else; with a bit of 31:8 set its word is illegal; issued from IDLE and run, it
leaves LAST_CMD = 0 and every other register as it was; issued while BUSY, it sets OVR like any CMD write. -/
def Obligations.NopOnlyCompletes : Prop :=
  decode 0x00000000#32 = .ok .nop ∧
  (∀ s : State, exec .nop s = .next { s with busy := false }) ∧
  (∀ w : Word, w.extractLsb' 0 8 = 0#8 → w.extractLsb' 8 24 ≠ 0#24 → decode w = .error .reservedBits) ∧
  (∀ s : State, isIdle s → runCommand (issue s 0#32) =
    .next { s with seqCmd := 0#32, seqSnap := s.seed, lastCmd := 0#32, busy := false }) ∧
  (∀ s : State, isBusy s → issue s 0#32 = { s with ovr := true })

/-! ### ChaCha -/

/-- The quarter-round on four distinct lanes: its twelve operations, and no other lane touched; a double-round is four of them on columns,
then four on diagonals (40_chacha.md rules R102, R103, whose operations and lanes are the spec's general knowledge G1, G2, log 14). -/
def Obligations.QuarterRoundLanes : Prop :=
  ∀ (a b c d : Fin 16) (w : Vector Word 16), a ≠ b → a ≠ c → a ≠ d → b ≠ c → b ≠ d → c ≠ d →
    let a1 := w[a] + w[b]
    let d1 := (w[d] ^^^ a1).rotateLeft 16
    let c1 := w[c] + d1
    let b1 := (w[b] ^^^ c1).rotateLeft 12
    let a2 := a1 + b1
    let d2 := (d1 ^^^ a2).rotateLeft 8
    let c2 := c1 + d2
    let b2 := (b1 ^^^ c2).rotateLeft 7
    (quarterRound a b c d w)[a] = a2 ∧ (quarterRound a b c d w)[b] = b2 ∧ (quarterRound a b c d w)[c] = c2 ∧
    (quarterRound a b c d w)[d] = d2 ∧
    (∀ i : Fin 16, i ≠ a → i ≠ b → i ≠ c → i ≠ d → (quarterRound a b c d w)[i] = w[i]) ∧
    doubleRound w = quarterRound 3 4 9 14 (quarterRound 2 7 8 13 (quarterRound 1 6 11 12 (quarterRound 0 5 10 15
      (quarterRound 3 7 11 15 (quarterRound 2 6 10 14 (quarterRound 1 5 9 13 (quarterRound 0 4 8 12 w)))))))

/-- 40_chacha.md rules R104, R105: the round counts of the codes 0, 1, 2, and no other; rounds / 2 double-rounds on a copy, the word-wise wrapping sum with the input, and byte 4i + b of the
result is bits 8b+7:8b of word i. -/
def Obligations.BlockFunctionBytes : Prop :=
  (∀ code : BitVec 2, (roundsOfCode code).map roundCount =
    if code = 0#2 then some 8 else if code = 1#2 then some 12 else if code = 2#2 then some 20 else none) ∧
  ∀ (s : Vector Word 16) (r : Rounds) (i : Fin 16) (b : Fin 4),
    (chachaBlock s r)[4 * i.val + b.val]'(by omega) =
      ((doubleRound^[roundCount r / 2] s)[i] + s[i]).extractLsb' (8 * b.val) 8

/-- 40_chacha.md rule R106: at counter 2^64 - 1 Regenerate raises CC_EXHAUSTED and changes nothing; at any other it puts the counter's
block into the buffer, adds 1 to the 64-bit counter and changes nothing else. -/
def Obligations.RegenerateNextBlock : Prop :=
  ∀ u : Chacha,
    (u.words[13] ++ u.words[12] = 0xFFFFFFFFFFFFFFFF#64 → regenerate u = none) ∧
    (u.words[13] ++ u.words[12] ≠ 0xFFFFFFFFFFFFFFFF#64 → ∃ w : Vector Word 16,
      regenerate u = some { u with buf := chachaBlock u.words u.rnd, words := w } ∧
      w[13] ++ w[12] = (u.words[13] ++ u.words[12] + 1#64 : BitVec 64) ∧
      ∀ i : Fin 16, i.val ≠ 12 → i.val ≠ 13 → w[i] = u.words[i])

/-- 40_chacha.md rules R100, R101, R110: CC_LOAD constructs the state from the snapshot and the round code, generates block 0, and leaves
counter 1, cursor 0 and SEEDED, in any state; its words are 0x01, 0x101 and 0x201, and RND = 3 or a set zero bit is illegal. -/
def Obligations.CcLoadConstructs : Prop :=
  decode 0x00000001#32 = .ok (.ccLoad .r8) ∧ decode 0x00000101#32 = .ok (.ccLoad .r12) ∧
  decode 0x00000201#32 = .ok (.ccLoad .r20) ∧
  (∀ w : Word, w.extractLsb' 0 8 = 0x01#8 →
    (w.extractLsb' 10 22 ≠ 0#22 → decode w = .error .reservedBits) ∧
    (w.extractLsb' 10 22 = 0#22 → w.extractLsb' 8 2 = 3#2 → decode w = .error .rndIllegal)) ∧
  ∀ (s : State) (rnd : Rounds),
    let k := s.seqSnap
    let state := fun low : Word => #v[0x61707865#32, 0x3320646e#32, 0x79622d32#32, 0x6b206574#32,
      k[0], k[1], k[2], k[3], k[4], k[5], k[6], k[7], low, 0#32, k[8], k[9]]
    exec (.ccLoad rnd) s = .next { s with
      cc := { words := state 1#32, buf := chachaBlock (state 0#32) rnd, cur := 0#7, rnd := rnd, seeded := true }
      busy := false }

/-- 40_chacha.md rule R112: CC_NEXT32 takes the 4 bytes at the cursor as one little-endian word; where they would pass the buffer's end, it
takes the first 4 of the next block, or faults CC_EXHAUSTED with cursor and results unchanged. -/
def Obligations.CcNext32Slice : Prop :=
  decode 0x00000002#32 = .ok .ccNext32 ∧
  ∀ s : State,
    (s.cc.seeded = false → exec .ccNext32 s = .next (s.raiseFault .unseeded 0#32)) ∧
    (s.cc.seeded = true → ∀ h : s.cc.cur.toNat + 4 ≤ 64, exec .ccNext32 s = .next { s with
      cc := { s.cc with cur := s.cc.cur + 4#7 }
      outLo := s.cc.buf[s.cc.cur.toNat + 3] ++ s.cc.buf[s.cc.cur.toNat + 2] ++ s.cc.buf[s.cc.cur.toNat + 1]
        ++ s.cc.buf[s.cc.cur.toNat]
      outHi := 0#32
      busy := false }) ∧
    (s.cc.seeded = true → 64 < s.cc.cur.toNat + 4 → regenerate s.cc = none →
      exec .ccNext32 s = .next (s.raiseFault .ccExhausted 0#32)) ∧
    (s.cc.seeded = true → 64 < s.cc.cur.toNat + 4 → ∀ v, regenerate s.cc = some v → exec .ccNext32 s = .next { s with
      cc := { v with cur := 4#7 }
      outLo := v.buf[3] ++ v.buf[2] ++ v.buf[1] ++ v.buf[0]
      outHi := 0#32
      busy := false })

/-- 40_chacha.md rule R113: CC_NEXT64 takes the 8 bytes at the cursor as one little-endian u64, with the same renewal as CC_NEXT32. -/
def Obligations.CcNext64Slice : Prop :=
  decode 0x00000003#32 = .ok .ccNext64 ∧
  ∀ s : State,
    (s.cc.seeded = false → exec .ccNext64 s = .next (s.raiseFault .unseeded 0#32)) ∧
    (s.cc.seeded = true → ∀ h : s.cc.cur.toNat + 8 ≤ 64, exec .ccNext64 s = .next { s with
      cc := { s.cc with cur := s.cc.cur + 8#7 }
      outLo := s.cc.buf[s.cc.cur.toNat + 3] ++ s.cc.buf[s.cc.cur.toNat + 2] ++ s.cc.buf[s.cc.cur.toNat + 1]
        ++ s.cc.buf[s.cc.cur.toNat]
      outHi := s.cc.buf[s.cc.cur.toNat + 7] ++ s.cc.buf[s.cc.cur.toNat + 6] ++ s.cc.buf[s.cc.cur.toNat + 5]
        ++ s.cc.buf[s.cc.cur.toNat + 4]
      busy := false }) ∧
    (s.cc.seeded = true → 64 < s.cc.cur.toNat + 8 → regenerate s.cc = none →
      exec .ccNext64 s = .next (s.raiseFault .ccExhausted 0#32)) ∧
    (s.cc.seeded = true → 64 < s.cc.cur.toNat + 8 → ∀ v, regenerate s.cc = some v → exec .ccNext64 s = .next { s with
      cc := { v with cur := 8#7 }
      outLo := v.buf[3] ++ v.buf[2] ++ v.buf[1] ++ v.buf[0]
      outHi := v.buf[7] ++ v.buf[6] ++ v.buf[5] ++ v.buf[4]
      busy := false })

/-- 40_chacha.md rule R114: CC_FILL in closed form, for a cursor at most 64 (the invariant of StepKeepsKeystreamInvariant): the buffer's
unread bytes, then bytes of the next block where they do not suffice, then zeros; on exhaustion the cursor is 64 and OUTBUF stays. -/
def Obligations.CcFillBytes : Prop :=
  decode 0x00004004#32 = .ok (.ccFill 64#8) ∧
  ∀ (s : State) (len : BitVec 8), len.toNat ≤ 64 → s.cc.cur.toNat ≤ 64 →
    (s.cc.seeded = false → exec (.ccFill len) s = .next (s.raiseFault .unseeded 0#32)) ∧
    (s.cc.seeded = true → s.cc.cur.toNat + len.toNat ≤ 64 → ∃ out : Vector Byte 64,
      exec (.ccFill len) s = .next { s with
        cc := { s.cc with cur := BitVec.ofNat 7 (s.cc.cur.toNat + len.toNat) }, outbuf := out, busy := false } ∧
      ∀ i : Fin 64, out[i] = if i.val < len.toNat then s.cc.buf.toList.getD (s.cc.cur.toNat + i.val) 0#8 else 0#8) ∧
    (s.cc.seeded = true → 64 < s.cc.cur.toNat + len.toNat → regenerate s.cc = none →
      exec (.ccFill len) s = .next ({ s with cc := { s.cc with cur := 64#7 } }.raiseFault .ccExhausted 0#32)) ∧
    (s.cc.seeded = true → 64 < s.cc.cur.toNat + len.toNat → ∀ v, regenerate s.cc = some v → ∃ out : Vector Byte 64,
      exec (.ccFill len) s = .next { s with
        cc := { v with cur := BitVec.ofNat 7 (s.cc.cur.toNat + len.toNat - 64) }, outbuf := out, busy := false } ∧
      ∀ i : Fin 64, out[i] =
        if i.val < 64 - s.cc.cur.toNat then s.cc.buf.toList.getD (s.cc.cur.toNat + i.val) 0#8
        else if i.val < len.toNat then v.buf.toList.getD (s.cc.cur.toNat + i.val - 64) 0#8 else 0#8)

/-- Where two fills complete, one fill of both lengths completes and reads the same keystream, without a gap or an overlap (40_chacha.md rules R108,
R114). -/
def Obligations.CcFillsAreContiguous : Prop :=
  ∀ (s t u : State) (a b : BitVec 8), a.toNat + b.toNat ≤ 64 → s.fault = false →
    exec (.ccFill a) s = .next t → t.fault = false → exec (.ccFill b) t = .next u → u.fault = false →
    ∃ v, exec (.ccFill (a + b)) s = .next v ∧ v.fault = false ∧ v.busy = false ∧ v.cc = u.cc ∧
      ∀ i : Fin 64, v.outbuf[i] =
        if i.val < a.toNat then t.outbuf[i]
        else if i.val < a.toNat + b.toNat then u.outbuf[i.val - a.toNat]'(by omega) else 0#8

/-- With 8 bytes left, or none and a block to come, CC_NEXT64 gives what two CC_NEXT32 give, the first in the low half; at cursor 60 it
does not, because CC_NEXT64 discards the 4 bytes left (40_chacha.md rule R113). -/
def Obligations.CcNext64IsTwoNext32 : Prop :=
  ∀ s : State, s.cc.seeded = true → (s.cc.cur.toNat ≤ 56 ∨ (s.cc.cur = 64#7 ∧ regenerate s.cc ≠ none)) →
    ∃ t u v, exec .ccNext32 s = .next t ∧ exec .ccNext32 t = .next u ∧ exec .ccNext64 s = .next v ∧
      v.outLo = t.outLo ∧ v.outHi = u.outLo ∧ v.cc = u.cc

/-! ### Xoshiro and SplitMix64 -/

/-- 41_xoshiro.md rule R145: XO_LOAD takes four u64 from the snapshot; all 256 bits zero fault XO_ZERO_SEED with the unit unchanged. -/
def Obligations.XoLoadSeeds : Prop :=
  decode 0x00000010#32 = .ok .xoLoad ∧
  ∀ s : State,
    let k := s.seqSnap
    ((∀ i : Fin 8, k[i.val] = 0#32) → exec .xoLoad s = .next (s.raiseFault .xoZeroSeed 0#32)) ∧
    (¬(∀ i : Fin 8, k[i.val] = 0#32) → exec .xoLoad s = .next { s with
      xo := { s0 := k[1] ++ k[0], s1 := k[3] ++ k[2], s2 := k[5] ++ k[4], s3 := k[7] ++ k[6], seeded := true }
      busy := false })

/-- The SplitMix64 step: the addition, the two mixing rounds and the last xor-shift (41_xoshiro.md rule R143, whose shifts 30 and 27 are
the spec's general knowledge G4, log 14). -/
def Obligations.SplitMixStep : Prop :=
  ∀ st : DWord, smAdvance st = st + 0x9E3779B97F4A7C15#64 ∧
    let z := (st ^^^ (st >>> 30)) * 0xBF58476D1CE4E5B9#64
    let y := (z ^^^ (z >>> 27)) * 0x94D049BB133111EB#64
    smMix st = y ^^^ (y >>> 31)

/-- 41_xoshiro.md rule R146: XO_SEED64 puts four successive SplitMix64 outputs of the seed into s0 to s3, in any state, and touches nothing
of the SplitMix64 unit. -/
def Obligations.XoSeed64Expands : Prop :=
  decode 0x00000011#32 = .ok .xoSeed64 ∧
  ∀ s : State,
    let seed : DWord := s.seqSnap[1] ++ s.seqSnap[0]
    exec .xoSeed64 s = .next { s with
      xo := { s0 := smMix (smAdvance^[1] seed), s1 := smMix (smAdvance^[2] seed), s2 := smMix (smAdvance^[3] seed),
              s3 := smMix (smAdvance^[4] seed), seeded := true }
      busy := false }

/-- 41_xoshiro.md rules R140, R141, R147, R148: from the state before it, XO_NEXT64 writes rotl(s0 + s3, 23) + s0 and makes the
transition once; XO_NEXT32 writes its low 32 bits with OUT_HI = 0 and makes the same transition; both fault UNSEEDED. -/
def Obligations.XoNextOutputs : Prop :=
  decode 0x00000012#32 = .ok .xoNext32 ∧ decode 0x00000013#32 = .ok .xoNext64 ∧
  ∀ s : State,
    let r := (s.xo.s0 + s.xo.s3).rotateLeft 23 + s.xo.s0
    let s2 := s.xo.s2 ^^^ s.xo.s0
    let s3 := s.xo.s3 ^^^ s.xo.s1
    let next : Xoshiro := { s0 := s.xo.s0 ^^^ s3, s1 := s.xo.s1 ^^^ s2, s2 := s2 ^^^ (s.xo.s1 <<< 17),
                            s3 := s3.rotateLeft 45, seeded := true }
    (s.xo.seeded = true →
      exec .xoNext64 s = .next { s with xo := next, outLo := r.extractLsb' 0 32, outHi := r.extractLsb' 32 32, busy := false } ∧
      exec .xoNext32 s = .next { s with xo := next, outLo := r.extractLsb' 0 32, outHi := 0#32, busy := false }) ∧
    (s.xo.seeded = false →
      exec .xoNext64 s = .next (s.raiseFault .unseeded 1#32) ∧ exec .xoNext32 s = .next (s.raiseFault .unseeded 1#32))

/-- The SplitMix64 output function is a bijection of u64 and the xoshiro transition is injective: the two facts behind 41_xoshiro.md rule
R144, the spec's general knowledge G5 (log 14). -/
def Obligations.GeneratorFunctionsInvertible : Prop := Function.Bijective smMix ∧ Function.Injective xoTransition

/-- 41_xoshiro.md rules R150, R151: SM_LOAD sets the state from SEED1 ++ SEED0; SM_NEXT64 advances it and writes the output, or faults
UNSEEDED; the SplitMix64 step itself is SplitMixStep's. -/
def Obligations.SmCommands : Prop :=
  decode 0x00000030#32 = .ok .smLoad ∧ decode 0x00000031#32 = .ok .smNext64 ∧
  ∀ s : State,
    exec .smLoad s = .next { s with sm := { state := s.seqSnap[1] ++ s.seqSnap[0], seeded := true }, busy := false } ∧
    (s.sm.seeded = true → exec .smNext64 s = .next { s with
      sm := { state := smAdvance s.sm.state, seeded := true }
      outLo := (smMix (smAdvance s.sm.state)).extractLsb' 0 32
      outHi := (smMix (smAdvance s.sm.state)).extractLsb' 32 32
      busy := false }) ∧
    (s.sm.seeded = false → exec .smNext64 s = .next (s.raiseFault .unseeded 3#32))

/-! ### PCG -/

/-- 42_pcg.md rule R162: the xor of the halves rotated right by the top 6 bits, every amount 0..63. -/
def Obligations.PcgOutputRotates : Prop :=
  ∀ st : QWord, pcgOut st = (st.extractLsb' 64 64 ^^^ st.extractLsb' 0 64).rotateRight (st.extractLsb' 122 6).toNat

/-- 42_pcg.md rule R165: PCG_LOAD forms the odd increment from the shifted stream value, and the state by the construction sequence, in any
state; two loads of one snapshot give one generator (rule R168, which the spec derives from R165). -/
def Obligations.PcgLoadConstructs : Prop :=
  decode 0x00000020#32 = .ok .pcgLoad ∧
  (∀ s : State,
    let k := s.seqSnap
    let mul : QWord := 0x2360ED051FC65DA44385DF649FCCF645#128
    let seed : QWord := k[3] ++ k[2] ++ k[1] ++ k[0]
    let stream : QWord := k[7] ++ k[6] ++ k[5] ++ k[4]
    let inc := (stream <<< 1) ||| 1#128
    exec .pcgLoad s = .next { s with
      pcg := { state := (inc + seed) * mul + inc, inc := inc, seeded := true }, busy := false }) ∧
  (∀ s s' t t' : State, s.seqSnap = s'.seqSnap → exec .pcgLoad s = .next t → exec .pcgLoad s' = .next t' → t.pcg = t'.pcg)

/-- 42_pcg.md rules R161, R166, R167: PCG_NEXT64 steps the state and writes the output of the new state; PCG_NEXT32 makes the same
step and writes its low 32 bits with OUT_HI = 0; both fault UNSEEDED. -/
def Obligations.PcgNextOutputs : Prop :=
  decode 0x00000021#32 = .ok .pcgNext32 ∧ decode 0x00000022#32 = .ok .pcgNext64 ∧
  ∀ s : State,
    let st := s.pcg.state * 0x2360ED051FC65DA44385DF649FCCF645#128 + s.pcg.inc
    (s.pcg.seeded = true →
      exec .pcgNext64 s = .next { s with pcg := { s.pcg with state := st }, outLo := (pcgOut st).extractLsb' 0 32,
                                         outHi := (pcgOut st).extractLsb' 32 32, busy := false } ∧
      exec .pcgNext32 s = .next { s with pcg := { s.pcg with state := st }, outLo := (pcgOut st).extractLsb' 0 32,
                                         outHi := 0#32, busy := false }) ∧
    (s.pcg.seeded = false →
      exec .pcgNext64 s = .next (s.raiseFault .unseeded 2#32) ∧ exec .pcgNext32 s = .next (s.raiseFault .unseeded 2#32))

/-! ### Entropy -/

/-- 43_entropy.md rule R184: ProbeInData gives the smallest offset at which the 8 probe bytes stand in the data, and none exactly where
they stand nowhere, LEN < 8 included. -/
def Obligations.ProbeInDataSmallest : Prop :=
  ∀ probe data : List Byte, probe.length = 8 →
    let at' := fun j : Nat => j + 8 ≤ data.length ∧ ∀ m : Nat, m < 8 → data[j + m]? = probe[m]?
    (∀ j, probeInData probe data data.length = some j → at' j ∧ ∀ j', j' < j → ¬at' j') ∧
    (probeInData probe data data.length = none → ∀ j, ¬at' j)

/-- 43_entropy.md rules R185, R186: one byte through the Repetition Count Test and then the Adaptive Proportion Test, with the first
failure and its stream index; a byte that fails the first does not reach the second. -/
def Obligations.TestsFeedOneByte : Prop :=
  ∀ (x : Byte) (rest : List Byte) (k : Nat) (r : Rct) (a : Apt), r.run.toNat ≤ 3 → a.count.toNat ≤ 12 →
    let run := if r.valid = true ∧ x = r.value then r.run.toNat + 1 else 1
    let r' : Rct := { valid := true, value := x, run := BitVec.ofNat 3 run }
    let value := if a.n = 0#9 then x else a.value
    let count := if a.n = 0#9 then 0 else if x = a.value then a.count.toNat + 1 else a.count.toNat
    let a' : Apt := { value := value, count := BitVec.ofNat 4 count, n := BitVec.ofNat 9 ((a.n.toNat + 1) % 512) }
    feedTests (x :: rest) k r a =
      if 4 ≤ run then (r', a, some (.entRctFail, k))
      else if 13 ≤ count then (r', a', some (.entAptFail, k))
      else feedTests rest (k + 1) r' a'

/-- A stream that passes the tests holds no four equal bytes in a row (43_entropy.md rule R185). -/
def Obligations.PassingStreamHasNoRunOfFour : Prop :=
  ∀ (l : List Byte) (k : Nat) (r r' : Rct) (a a' : Apt), r.run.toNat ≤ 3 → a.count.toNat ≤ 12 →
    feedTests l k r a = (r', a', none) →
    ∀ (j : Nat) (x : Byte), ¬(l[j]? = some x ∧ l[j + 1]? = some x ∧ l[j + 2]? = some x ∧ l[j + 3]? = some x)

/-- In a stream that passes from the start of a window on, the window's first byte stands at most 12 more times in the window's 512
samples, and the counter says how often (43_entropy.md rule R186). -/
def Obligations.PassingWindowHasFewMatches : Prop :=
  ∀ (x : Byte) (l : List Byte) (k : Nat) (r r' : Rct) (a a' : Apt), a.n = 0#9 → l.length < 512 →
    feedTests (x :: l) k r a = (r', a', none) →
    a'.value = x ∧ a'.count.toNat = l.count x ∧ l.count x ≤ 12 ∧ a'.n.toNat = (l.length + 1) % 512

/-- The first step of an ENT_FILL sets the phase PROBE and `ent.k` 0, stays BUSY and raises its request; a byte answered to a request that
is neither the probe's last nor the fill's last is stored, a probe byte in `ent.probe`, a data byte in `ent.data`, and counted, and nothing
else happens (43_entropy.md rules R181, R190; the answer stands on `port`, log 9). -/
def Obligations.EntFillStartsAndStores : Prop :=
  decode 0x00004040#32 = .ok (.entFill 64#8) ∧
  (∀ (s : State) (len : BitVec 8), len.toNat ≤ 64 → s.rst = false → s.busy = true → s.ent.phase = .idle →
    ∃ t, exec (.entFill len) s = .next t ∧ t = { s with ent := { s.ent with phase := .probe, k := 0#7 } } ∧ entReq t = true) ∧
  ∀ (s : State) (len : BitVec 8) (b : Byte), len.toNat ≤ 64 → s.ent.phase ≠ .idle → s.port = some (.byte b) →
    (∀ h : s.ent.k.toNat < 7, exec (.entFill len) s = .next { s with
      port := none, ent := { s.ent with probe := s.ent.probe.set s.ent.k.toNat b, k := s.ent.k + 1#7 } }) ∧
    (∀ (h : 8 ≤ s.ent.k.toNat) (h' : s.ent.k.toNat < 7 + len.toNat) (_ : len.toNat ≤ 64),
      exec (.entFill len) s = .next { s with
        port := none, ent := { s.ent with data := s.ent.data.set (s.ent.k.toNat - 8) b, k := s.ent.k + 1#7 } })

/-- 43_entropy.md rules R181, R183 step (a): a source error faults ENT_SOURCE_FAIL with the request's index; after the probe's last byte
the fill faults ENT_PROBE_REPEAT where a previous probe exists and is equal, and else, with LEN > 0, goes on to DATA (the port is log 9; that a fault
leaves the fill's working state as it is, log 16). -/
def Obligations.EntFillErrorAndProbeCheck : Prop :=
  ∀ (s : State) (len : BitVec 8), len.toNat ≤ 64 → s.ent.phase ≠ .idle →
    (s.port = some .error →
      exec (.entFill len) s = .next ({ s with port := none }.raiseFault .entSourceFail (BitVec.ofNat 32 s.ent.k.toNat))) ∧
    (∀ b : Byte, s.port = some (.byte b) → s.ent.k = 7#7 →
      let probe := s.ent.probe.set 7 b
      (s.ent.prevValid = true → probe = s.ent.prev → exec (.entFill len) s =
        .next ({ s with port := none, ent := { s.ent with probe := probe, k := 8#7 } }.raiseFault .entProbeRepeat 0#32)) ∧
      (s.ent.prevValid = false ∨ probe ≠ s.ent.prev → 0 < len.toNat → exec (.entFill len) s =
        .next { s with port := none, ent := { s.ent with probe := probe, k := 8#7, phase := .data } }))

/-- 43_entropy.md rules R183, R187, R190: the last byte of a fill of 1 to 64 bytes, in one step: ENT_PROBE_IN_DATA, a test's fault with the
testers as the failing byte left them, or the completion, which writes the previous probe, the testers, PREV_VALID and OUTBUF (the port is
log 9; that a fault leaves the fill's working state as it is, log 16). -/
def Obligations.EntFillLastByte : Prop :=
  ∀ (s : State) (len : BitVec 8) (b : Byte), len.toNat ≤ 64 → s.ent.phase = .data → s.port = some (.byte b) →
    ∀ (_ : 0 < len.toNat) (_ : s.ent.k.toNat = 7 + len.toNat) (_ : len.toNat - 1 < 64),
    let data := s.ent.data.set (len.toNat - 1) b
    let bytes := data.toList.take len.toNat
    let e : Ent := { s.ent with data := data, k := BitVec.ofNat 7 (8 + len.toNat) }
    let tests := feedTests (s.ent.probe.toList ++ bytes) 0 s.ent.rct s.ent.apt
    (∀ j, probeInData s.ent.probe.toList bytes len.toNat = some j → exec (.entFill len) s =
      .next ({ s with port := none, ent := e }.raiseFault .entProbeInData (BitVec.ofNat 32 j))) ∧
    (∀ r a c k, probeInData s.ent.probe.toList bytes len.toNat = none → tests = (r, a, some (c, k)) → exec (.entFill len) s =
      .next ({ s with port := none, ent := { e with rct := r, apt := a } }.raiseFault c (BitVec.ofNat 32 k))) ∧
    (∀ r a, probeInData s.ent.probe.toList bytes len.toNat = none → tests = (r, a, none) → ∃ t, exec (.entFill len) s = .next t ∧
      t = { s with
        port := none, outbuf := t.outbuf, busy := false
        ent := { e with rct := r, apt := a, prev := s.ent.probe, prevValid := true, phase := .idle } } ∧
      ∀ i : Fin 64, t.outbuf[i] = if i.val < len.toNat then data[i] else 0#8)

/-- A whole ENT_FILL through the machine's steps: with the source answering the probe and the data and no probe repeat, 9 + LEN steps end
the fill as the pseudocode of 43_entropy.md rule R183 says, LEN 0 included (rules R182, R187, R190; the moves' list is log 1). -/
def Obligations.EntFillRunsWhole : Prop :=
  ∀ (s : State) (len : BitVec 8) (probe : Vector Byte 8) (data : List Byte) (rest : List Move),
    len.toNat ≤ 64 → data.length = len.toNat → coreEnabled s = true → s.fault = false → decode s.seqCmd = .ok (.entFill len) →
    s.moves = .core :: (byteAnswers (probe.toList ++ data) ++ rest) →
    (s.ent.prevValid = false ∨ probe ≠ s.ent.prev) →
    ∃ t, core.run (9 + len.toNat) s = .next t ∧ t.moves = rest ∧ t.busy = false ∧
      t.cc = s.cc ∧ t.xo = s.xo ∧ t.pcg = s.pcg ∧ t.sm = s.sm ∧ t.outLo = s.outLo ∧ t.outHi = s.outHi ∧
      match probeInData probe.toList data len.toNat with
      | some j => t.fault = true ∧ t.cause = some .entProbeInData ∧ t.faultCmd = s.seqCmd ∧ t.faultInfo = BitVec.ofNat 32 j ∧
          t.ent.rct = s.ent.rct ∧ t.ent.apt = s.ent.apt ∧ t.ent.prev = s.ent.prev ∧ t.ent.prevValid = s.ent.prevValid ∧
          t.outbuf = s.outbuf
      | none =>
        match feedTests (probe.toList ++ data) 0 s.ent.rct s.ent.apt with
        | (r, a, some (c, k)) => t.fault = true ∧ t.cause = some c ∧ t.faultCmd = s.seqCmd ∧ t.faultInfo = BitVec.ofNat 32 k ∧
            t.ent.rct = r ∧ t.ent.apt = a ∧ t.ent.prev = s.ent.prev ∧ t.ent.prevValid = s.ent.prevValid ∧ t.outbuf = s.outbuf
        | (r, a, none) => t.fault = false ∧ t.ent.rct = r ∧ t.ent.apt = a ∧ t.ent.prev = probe ∧ t.ent.prevValid = true ∧
            t.ent.phase = .idle ∧ ∀ i : Fin 64, t.outbuf[i] = data.getD i.val 0#8

/-- A fill that repeats the previous probe faults with its 9th step, after 8 answers, and leaves the testers, the previous probe and
OUTBUF as they were (43_entropy.md rules R182, R183 step (a), R187; the moves' list is log 1). -/
def Obligations.EntFillFrozenSource : Prop :=
  ∀ (s : State) (len : BitVec 8) (rest : List Move), len.toNat ≤ 64 → coreEnabled s = true → s.fault = false →
    decode s.seqCmd = .ok (.entFill len) → s.ent.prevValid = true →
    s.moves = .core :: (byteAnswers s.ent.prev.toList ++ rest) →
    ∃ t, core.run 9 s = .next t ∧ isFaulted t ∧ t.cause = some .entProbeRepeat ∧ t.faultCmd = s.seqCmd ∧ t.faultInfo = 0#32 ∧
      t.moves = rest ∧ t.ent.rct = s.ent.rct ∧ t.ent.apt = s.ent.apt ∧ t.ent.prev = s.ent.prev ∧ t.ent.prevValid = true ∧
      t.outbuf = s.outbuf
end

