-- ==== Sys2Proof/Laws/Dispatch.lean ====
section
/-! SUPPORT. Each arm of exec as an equation, so that no proof unfolds the whole match. -/

namespace Sys2Proof.Machine

variable (s : State)

@[simp] theorem exec_nop : exec .nop s = execNop s := rfl
@[simp] theorem exec_ccLoad (rnd : Rounds) : exec (.ccLoad rnd) s = execCcLoad rnd s := rfl
@[simp] theorem exec_ccNext32 : exec .ccNext32 s = execCcNext32 s := rfl
@[simp] theorem exec_ccNext64 : exec .ccNext64 s = execCcNext64 s := rfl
@[simp] theorem exec_ccFill (len : BitVec 8) : exec (.ccFill len) s = execCcFill len s := rfl
@[simp] theorem exec_xoLoad : exec .xoLoad s = execXoLoad s := rfl
@[simp] theorem exec_xoSeed64 : exec .xoSeed64 s = execXoSeed64 s := rfl
@[simp] theorem exec_xoNext32 : exec .xoNext32 s = execXoNext32 s := rfl
@[simp] theorem exec_xoNext64 : exec .xoNext64 s = execXoNext64 s := rfl
@[simp] theorem exec_pcgLoad : exec .pcgLoad s = execPcgLoad s := rfl
@[simp] theorem exec_pcgNext32 : exec .pcgNext32 s = execPcgNext32 s := rfl
@[simp] theorem exec_pcgNext64 : exec .pcgNext64 s = execPcgNext64 s := rfl
@[simp] theorem exec_smLoad : exec .smLoad s = execSmLoad s := rfl
@[simp] theorem exec_smNext64 : exec .smNext64 s = execSmNext64 s := rfl
@[simp] theorem exec_entFill (len : BitVec 8) : exec (.entFill len) s = execEntFill len s := rfl

end Sys2Proof.Machine
end

