-- ==== Sys2Proof/Laws/State.lean ====
section
/-! SUPPORT. One lemma per field per named update of the state (Machine/Ops.lean), each true by rfl, so that no proof unfolds a record
update. -/

namespace Sys2Proof.Machine

section setCc

variable (s : State) (u : Chacha)

@[simp] theorem State.setCc_busy : (s.setCc u).busy = s.busy := rfl
@[simp] theorem State.setCc_fault : (s.setCc u).fault = s.fault := rfl
@[simp] theorem State.setCc_ovr : (s.setCc u).ovr = s.ovr := rfl
@[simp] theorem State.setCc_lastCmd : (s.setCc u).lastCmd = s.lastCmd := rfl
@[simp] theorem State.setCc_cause : (s.setCc u).cause = s.cause := rfl
@[simp] theorem State.setCc_faultCmd : (s.setCc u).faultCmd = s.faultCmd := rfl
@[simp] theorem State.setCc_faultInfo : (s.setCc u).faultInfo = s.faultInfo := rfl
@[simp] theorem State.setCc_seed : (s.setCc u).seed = s.seed := rfl
@[simp] theorem State.setCc_outLo : (s.setCc u).outLo = s.outLo := rfl
@[simp] theorem State.setCc_outHi : (s.setCc u).outHi = s.outHi := rfl
@[simp] theorem State.setCc_outbuf : (s.setCc u).outbuf = s.outbuf := rfl
@[simp] theorem State.setCc_seqCmd : (s.setCc u).seqCmd = s.seqCmd := rfl
@[simp] theorem State.setCc_seqSnap : (s.setCc u).seqSnap = s.seqSnap := rfl
@[simp] theorem State.setCc_cc : (s.setCc u).cc = u := rfl
@[simp] theorem State.setCc_xo : (s.setCc u).xo = s.xo := rfl
@[simp] theorem State.setCc_pcg : (s.setCc u).pcg = s.pcg := rfl
@[simp] theorem State.setCc_sm : (s.setCc u).sm = s.sm := rfl
@[simp] theorem State.setCc_ent : (s.setCc u).ent = s.ent := rfl
@[simp] theorem State.setCc_rst : (s.setCc u).rst = s.rst := rfl
@[simp] theorem State.setCc_port : (s.setCc u).port = s.port := rfl
@[simp] theorem State.setCc_rdata : (s.setCc u).rdata = s.rdata := rfl
@[simp] theorem State.setCc_windowPage : (s.setCc u).windowPage = s.windowPage := rfl
@[simp] theorem State.setCc_moves : (s.setCc u).moves = s.moves := rfl

end setCc

section setXo

variable (s : State) (u : Xoshiro)

@[simp] theorem State.setXo_busy : (s.setXo u).busy = s.busy := rfl
@[simp] theorem State.setXo_fault : (s.setXo u).fault = s.fault := rfl
@[simp] theorem State.setXo_ovr : (s.setXo u).ovr = s.ovr := rfl
@[simp] theorem State.setXo_lastCmd : (s.setXo u).lastCmd = s.lastCmd := rfl
@[simp] theorem State.setXo_cause : (s.setXo u).cause = s.cause := rfl
@[simp] theorem State.setXo_faultCmd : (s.setXo u).faultCmd = s.faultCmd := rfl
@[simp] theorem State.setXo_faultInfo : (s.setXo u).faultInfo = s.faultInfo := rfl
@[simp] theorem State.setXo_seed : (s.setXo u).seed = s.seed := rfl
@[simp] theorem State.setXo_outLo : (s.setXo u).outLo = s.outLo := rfl
@[simp] theorem State.setXo_outHi : (s.setXo u).outHi = s.outHi := rfl
@[simp] theorem State.setXo_outbuf : (s.setXo u).outbuf = s.outbuf := rfl
@[simp] theorem State.setXo_seqCmd : (s.setXo u).seqCmd = s.seqCmd := rfl
@[simp] theorem State.setXo_seqSnap : (s.setXo u).seqSnap = s.seqSnap := rfl
@[simp] theorem State.setXo_cc : (s.setXo u).cc = s.cc := rfl
@[simp] theorem State.setXo_xo : (s.setXo u).xo = u := rfl
@[simp] theorem State.setXo_pcg : (s.setXo u).pcg = s.pcg := rfl
@[simp] theorem State.setXo_sm : (s.setXo u).sm = s.sm := rfl
@[simp] theorem State.setXo_ent : (s.setXo u).ent = s.ent := rfl
@[simp] theorem State.setXo_rst : (s.setXo u).rst = s.rst := rfl
@[simp] theorem State.setXo_port : (s.setXo u).port = s.port := rfl
@[simp] theorem State.setXo_rdata : (s.setXo u).rdata = s.rdata := rfl
@[simp] theorem State.setXo_windowPage : (s.setXo u).windowPage = s.windowPage := rfl
@[simp] theorem State.setXo_moves : (s.setXo u).moves = s.moves := rfl

end setXo

section setPcg

variable (s : State) (u : Pcg)

@[simp] theorem State.setPcg_busy : (s.setPcg u).busy = s.busy := rfl
@[simp] theorem State.setPcg_fault : (s.setPcg u).fault = s.fault := rfl
@[simp] theorem State.setPcg_ovr : (s.setPcg u).ovr = s.ovr := rfl
@[simp] theorem State.setPcg_lastCmd : (s.setPcg u).lastCmd = s.lastCmd := rfl
@[simp] theorem State.setPcg_cause : (s.setPcg u).cause = s.cause := rfl
@[simp] theorem State.setPcg_faultCmd : (s.setPcg u).faultCmd = s.faultCmd := rfl
@[simp] theorem State.setPcg_faultInfo : (s.setPcg u).faultInfo = s.faultInfo := rfl
@[simp] theorem State.setPcg_seed : (s.setPcg u).seed = s.seed := rfl
@[simp] theorem State.setPcg_outLo : (s.setPcg u).outLo = s.outLo := rfl
@[simp] theorem State.setPcg_outHi : (s.setPcg u).outHi = s.outHi := rfl
@[simp] theorem State.setPcg_outbuf : (s.setPcg u).outbuf = s.outbuf := rfl
@[simp] theorem State.setPcg_seqCmd : (s.setPcg u).seqCmd = s.seqCmd := rfl
@[simp] theorem State.setPcg_seqSnap : (s.setPcg u).seqSnap = s.seqSnap := rfl
@[simp] theorem State.setPcg_cc : (s.setPcg u).cc = s.cc := rfl
@[simp] theorem State.setPcg_xo : (s.setPcg u).xo = s.xo := rfl
@[simp] theorem State.setPcg_pcg : (s.setPcg u).pcg = u := rfl
@[simp] theorem State.setPcg_sm : (s.setPcg u).sm = s.sm := rfl
@[simp] theorem State.setPcg_ent : (s.setPcg u).ent = s.ent := rfl
@[simp] theorem State.setPcg_rst : (s.setPcg u).rst = s.rst := rfl
@[simp] theorem State.setPcg_port : (s.setPcg u).port = s.port := rfl
@[simp] theorem State.setPcg_rdata : (s.setPcg u).rdata = s.rdata := rfl
@[simp] theorem State.setPcg_windowPage : (s.setPcg u).windowPage = s.windowPage := rfl
@[simp] theorem State.setPcg_moves : (s.setPcg u).moves = s.moves := rfl

end setPcg

section setSm

variable (s : State) (u : SplitMix)

@[simp] theorem State.setSm_busy : (s.setSm u).busy = s.busy := rfl
@[simp] theorem State.setSm_fault : (s.setSm u).fault = s.fault := rfl
@[simp] theorem State.setSm_ovr : (s.setSm u).ovr = s.ovr := rfl
@[simp] theorem State.setSm_lastCmd : (s.setSm u).lastCmd = s.lastCmd := rfl
@[simp] theorem State.setSm_cause : (s.setSm u).cause = s.cause := rfl
@[simp] theorem State.setSm_faultCmd : (s.setSm u).faultCmd = s.faultCmd := rfl
@[simp] theorem State.setSm_faultInfo : (s.setSm u).faultInfo = s.faultInfo := rfl
@[simp] theorem State.setSm_seed : (s.setSm u).seed = s.seed := rfl
@[simp] theorem State.setSm_outLo : (s.setSm u).outLo = s.outLo := rfl
@[simp] theorem State.setSm_outHi : (s.setSm u).outHi = s.outHi := rfl
@[simp] theorem State.setSm_outbuf : (s.setSm u).outbuf = s.outbuf := rfl
@[simp] theorem State.setSm_seqCmd : (s.setSm u).seqCmd = s.seqCmd := rfl
@[simp] theorem State.setSm_seqSnap : (s.setSm u).seqSnap = s.seqSnap := rfl
@[simp] theorem State.setSm_cc : (s.setSm u).cc = s.cc := rfl
@[simp] theorem State.setSm_xo : (s.setSm u).xo = s.xo := rfl
@[simp] theorem State.setSm_pcg : (s.setSm u).pcg = s.pcg := rfl
@[simp] theorem State.setSm_sm : (s.setSm u).sm = u := rfl
@[simp] theorem State.setSm_ent : (s.setSm u).ent = s.ent := rfl
@[simp] theorem State.setSm_rst : (s.setSm u).rst = s.rst := rfl
@[simp] theorem State.setSm_port : (s.setSm u).port = s.port := rfl
@[simp] theorem State.setSm_rdata : (s.setSm u).rdata = s.rdata := rfl
@[simp] theorem State.setSm_windowPage : (s.setSm u).windowPage = s.windowPage := rfl
@[simp] theorem State.setSm_moves : (s.setSm u).moves = s.moves := rfl

end setSm

section setEnt

variable (s : State) (u : Ent)

@[simp] theorem State.setEnt_busy : (s.setEnt u).busy = s.busy := rfl
@[simp] theorem State.setEnt_fault : (s.setEnt u).fault = s.fault := rfl
@[simp] theorem State.setEnt_ovr : (s.setEnt u).ovr = s.ovr := rfl
@[simp] theorem State.setEnt_lastCmd : (s.setEnt u).lastCmd = s.lastCmd := rfl
@[simp] theorem State.setEnt_cause : (s.setEnt u).cause = s.cause := rfl
@[simp] theorem State.setEnt_faultCmd : (s.setEnt u).faultCmd = s.faultCmd := rfl
@[simp] theorem State.setEnt_faultInfo : (s.setEnt u).faultInfo = s.faultInfo := rfl
@[simp] theorem State.setEnt_seed : (s.setEnt u).seed = s.seed := rfl
@[simp] theorem State.setEnt_outLo : (s.setEnt u).outLo = s.outLo := rfl
@[simp] theorem State.setEnt_outHi : (s.setEnt u).outHi = s.outHi := rfl
@[simp] theorem State.setEnt_outbuf : (s.setEnt u).outbuf = s.outbuf := rfl
@[simp] theorem State.setEnt_seqCmd : (s.setEnt u).seqCmd = s.seqCmd := rfl
@[simp] theorem State.setEnt_seqSnap : (s.setEnt u).seqSnap = s.seqSnap := rfl
@[simp] theorem State.setEnt_cc : (s.setEnt u).cc = s.cc := rfl
@[simp] theorem State.setEnt_xo : (s.setEnt u).xo = s.xo := rfl
@[simp] theorem State.setEnt_pcg : (s.setEnt u).pcg = s.pcg := rfl
@[simp] theorem State.setEnt_sm : (s.setEnt u).sm = s.sm := rfl
@[simp] theorem State.setEnt_ent : (s.setEnt u).ent = u := rfl
@[simp] theorem State.setEnt_rst : (s.setEnt u).rst = s.rst := rfl
@[simp] theorem State.setEnt_port : (s.setEnt u).port = s.port := rfl
@[simp] theorem State.setEnt_rdata : (s.setEnt u).rdata = s.rdata := rfl
@[simp] theorem State.setEnt_windowPage : (s.setEnt u).windowPage = s.windowPage := rfl
@[simp] theorem State.setEnt_moves : (s.setEnt u).moves = s.moves := rfl

end setEnt

section setPort

variable (s : State) (p : Option Answer)

@[simp] theorem State.setPort_busy : (s.setPort p).busy = s.busy := rfl
@[simp] theorem State.setPort_fault : (s.setPort p).fault = s.fault := rfl
@[simp] theorem State.setPort_ovr : (s.setPort p).ovr = s.ovr := rfl
@[simp] theorem State.setPort_lastCmd : (s.setPort p).lastCmd = s.lastCmd := rfl
@[simp] theorem State.setPort_cause : (s.setPort p).cause = s.cause := rfl
@[simp] theorem State.setPort_faultCmd : (s.setPort p).faultCmd = s.faultCmd := rfl
@[simp] theorem State.setPort_faultInfo : (s.setPort p).faultInfo = s.faultInfo := rfl
@[simp] theorem State.setPort_seed : (s.setPort p).seed = s.seed := rfl
@[simp] theorem State.setPort_outLo : (s.setPort p).outLo = s.outLo := rfl
@[simp] theorem State.setPort_outHi : (s.setPort p).outHi = s.outHi := rfl
@[simp] theorem State.setPort_outbuf : (s.setPort p).outbuf = s.outbuf := rfl
@[simp] theorem State.setPort_seqCmd : (s.setPort p).seqCmd = s.seqCmd := rfl
@[simp] theorem State.setPort_seqSnap : (s.setPort p).seqSnap = s.seqSnap := rfl
@[simp] theorem State.setPort_cc : (s.setPort p).cc = s.cc := rfl
@[simp] theorem State.setPort_xo : (s.setPort p).xo = s.xo := rfl
@[simp] theorem State.setPort_pcg : (s.setPort p).pcg = s.pcg := rfl
@[simp] theorem State.setPort_sm : (s.setPort p).sm = s.sm := rfl
@[simp] theorem State.setPort_ent : (s.setPort p).ent = s.ent := rfl
@[simp] theorem State.setPort_rst : (s.setPort p).rst = s.rst := rfl
@[simp] theorem State.setPort_port : (s.setPort p).port = p := rfl
@[simp] theorem State.setPort_rdata : (s.setPort p).rdata = s.rdata := rfl
@[simp] theorem State.setPort_windowPage : (s.setPort p).windowPage = s.windowPage := rfl
@[simp] theorem State.setPort_moves : (s.setPort p).moves = s.moves := rfl

end setPort

section setOut

variable (s : State) (v : DWord)

@[simp] theorem State.setOut_busy : (s.setOut v).busy = s.busy := rfl
@[simp] theorem State.setOut_fault : (s.setOut v).fault = s.fault := rfl
@[simp] theorem State.setOut_ovr : (s.setOut v).ovr = s.ovr := rfl
@[simp] theorem State.setOut_lastCmd : (s.setOut v).lastCmd = s.lastCmd := rfl
@[simp] theorem State.setOut_cause : (s.setOut v).cause = s.cause := rfl
@[simp] theorem State.setOut_faultCmd : (s.setOut v).faultCmd = s.faultCmd := rfl
@[simp] theorem State.setOut_faultInfo : (s.setOut v).faultInfo = s.faultInfo := rfl
@[simp] theorem State.setOut_seed : (s.setOut v).seed = s.seed := rfl
@[simp] theorem State.setOut_outLo : (s.setOut v).outLo = lo32 v := rfl
@[simp] theorem State.setOut_outHi : (s.setOut v).outHi = hi32 v := rfl
@[simp] theorem State.setOut_outbuf : (s.setOut v).outbuf = s.outbuf := rfl
@[simp] theorem State.setOut_seqCmd : (s.setOut v).seqCmd = s.seqCmd := rfl
@[simp] theorem State.setOut_seqSnap : (s.setOut v).seqSnap = s.seqSnap := rfl
@[simp] theorem State.setOut_cc : (s.setOut v).cc = s.cc := rfl
@[simp] theorem State.setOut_xo : (s.setOut v).xo = s.xo := rfl
@[simp] theorem State.setOut_pcg : (s.setOut v).pcg = s.pcg := rfl
@[simp] theorem State.setOut_sm : (s.setOut v).sm = s.sm := rfl
@[simp] theorem State.setOut_ent : (s.setOut v).ent = s.ent := rfl
@[simp] theorem State.setOut_rst : (s.setOut v).rst = s.rst := rfl
@[simp] theorem State.setOut_port : (s.setOut v).port = s.port := rfl
@[simp] theorem State.setOut_rdata : (s.setOut v).rdata = s.rdata := rfl
@[simp] theorem State.setOut_windowPage : (s.setOut v).windowPage = s.windowPage := rfl
@[simp] theorem State.setOut_moves : (s.setOut v).moves = s.moves := rfl

end setOut

section setOutbuf

variable (s : State) (l : List Byte)

@[simp] theorem State.setOutbuf_busy : (s.setOutbuf l).busy = s.busy := by simp only [State.setOutbuf]
@[simp] theorem State.setOutbuf_fault : (s.setOutbuf l).fault = s.fault := by simp only [State.setOutbuf]
@[simp] theorem State.setOutbuf_ovr : (s.setOutbuf l).ovr = s.ovr := by simp only [State.setOutbuf]
@[simp] theorem State.setOutbuf_lastCmd : (s.setOutbuf l).lastCmd = s.lastCmd := by simp only [State.setOutbuf]
@[simp] theorem State.setOutbuf_cause : (s.setOutbuf l).cause = s.cause := by simp only [State.setOutbuf]
@[simp] theorem State.setOutbuf_faultCmd : (s.setOutbuf l).faultCmd = s.faultCmd := by simp only [State.setOutbuf]
@[simp] theorem State.setOutbuf_faultInfo : (s.setOutbuf l).faultInfo = s.faultInfo := by simp only [State.setOutbuf]
@[simp] theorem State.setOutbuf_seed : (s.setOutbuf l).seed = s.seed := by simp only [State.setOutbuf]
@[simp] theorem State.setOutbuf_outLo : (s.setOutbuf l).outLo = s.outLo := by simp only [State.setOutbuf]
@[simp] theorem State.setOutbuf_outHi : (s.setOutbuf l).outHi = s.outHi := by simp only [State.setOutbuf]
@[simp] theorem State.setOutbuf_outbuf : (s.setOutbuf l).outbuf = padded l := by simp only [State.setOutbuf]
@[simp] theorem State.setOutbuf_seqCmd : (s.setOutbuf l).seqCmd = s.seqCmd := by simp only [State.setOutbuf]
@[simp] theorem State.setOutbuf_seqSnap : (s.setOutbuf l).seqSnap = s.seqSnap := by simp only [State.setOutbuf]
@[simp] theorem State.setOutbuf_cc : (s.setOutbuf l).cc = s.cc := by simp only [State.setOutbuf]
@[simp] theorem State.setOutbuf_xo : (s.setOutbuf l).xo = s.xo := by simp only [State.setOutbuf]
@[simp] theorem State.setOutbuf_pcg : (s.setOutbuf l).pcg = s.pcg := by simp only [State.setOutbuf]
@[simp] theorem State.setOutbuf_sm : (s.setOutbuf l).sm = s.sm := by simp only [State.setOutbuf]
@[simp] theorem State.setOutbuf_ent : (s.setOutbuf l).ent = s.ent := by simp only [State.setOutbuf]
@[simp] theorem State.setOutbuf_rst : (s.setOutbuf l).rst = s.rst := by simp only [State.setOutbuf]
@[simp] theorem State.setOutbuf_port : (s.setOutbuf l).port = s.port := by simp only [State.setOutbuf]
@[simp] theorem State.setOutbuf_rdata : (s.setOutbuf l).rdata = s.rdata := by simp only [State.setOutbuf]
@[simp] theorem State.setOutbuf_windowPage : (s.setOutbuf l).windowPage = s.windowPage := by simp only [State.setOutbuf]
@[simp] theorem State.setOutbuf_moves : (s.setOutbuf l).moves = s.moves := by simp only [State.setOutbuf]

end setOutbuf

section complete

variable (s : State)

@[simp] theorem State.complete_busy : s.complete.busy = false := rfl
@[simp] theorem State.complete_fault : s.complete.fault = s.fault := rfl
@[simp] theorem State.complete_ovr : s.complete.ovr = s.ovr := rfl
@[simp] theorem State.complete_lastCmd : s.complete.lastCmd = s.lastCmd := rfl
@[simp] theorem State.complete_cause : s.complete.cause = s.cause := rfl
@[simp] theorem State.complete_faultCmd : s.complete.faultCmd = s.faultCmd := rfl
@[simp] theorem State.complete_faultInfo : s.complete.faultInfo = s.faultInfo := rfl
@[simp] theorem State.complete_seed : s.complete.seed = s.seed := rfl
@[simp] theorem State.complete_outLo : s.complete.outLo = s.outLo := rfl
@[simp] theorem State.complete_outHi : s.complete.outHi = s.outHi := rfl
@[simp] theorem State.complete_outbuf : s.complete.outbuf = s.outbuf := rfl
@[simp] theorem State.complete_seqCmd : s.complete.seqCmd = s.seqCmd := rfl
@[simp] theorem State.complete_seqSnap : s.complete.seqSnap = s.seqSnap := rfl
@[simp] theorem State.complete_cc : s.complete.cc = s.cc := rfl
@[simp] theorem State.complete_xo : s.complete.xo = s.xo := rfl
@[simp] theorem State.complete_pcg : s.complete.pcg = s.pcg := rfl
@[simp] theorem State.complete_sm : s.complete.sm = s.sm := rfl
@[simp] theorem State.complete_ent : s.complete.ent = s.ent := rfl
@[simp] theorem State.complete_rst : s.complete.rst = s.rst := rfl
@[simp] theorem State.complete_port : s.complete.port = s.port := rfl
@[simp] theorem State.complete_rdata : s.complete.rdata = s.rdata := rfl
@[simp] theorem State.complete_windowPage : s.complete.windowPage = s.windowPage := rfl
@[simp] theorem State.complete_moves : s.complete.moves = s.moves := rfl

end complete

section accept

variable (s : State) (v : Word)

@[simp] theorem State.accept_busy : (s.accept v).busy = true := rfl
@[simp] theorem State.accept_fault : (s.accept v).fault = s.fault := rfl
@[simp] theorem State.accept_ovr : (s.accept v).ovr = s.ovr := rfl
@[simp] theorem State.accept_lastCmd : (s.accept v).lastCmd = v := rfl
@[simp] theorem State.accept_cause : (s.accept v).cause = s.cause := rfl
@[simp] theorem State.accept_faultCmd : (s.accept v).faultCmd = s.faultCmd := rfl
@[simp] theorem State.accept_faultInfo : (s.accept v).faultInfo = s.faultInfo := rfl
@[simp] theorem State.accept_seed : (s.accept v).seed = s.seed := rfl
@[simp] theorem State.accept_outLo : (s.accept v).outLo = s.outLo := rfl
@[simp] theorem State.accept_outHi : (s.accept v).outHi = s.outHi := rfl
@[simp] theorem State.accept_outbuf : (s.accept v).outbuf = s.outbuf := rfl
@[simp] theorem State.accept_seqCmd : (s.accept v).seqCmd = v := rfl
@[simp] theorem State.accept_seqSnap : (s.accept v).seqSnap = s.seed := rfl
@[simp] theorem State.accept_cc : (s.accept v).cc = s.cc := rfl
@[simp] theorem State.accept_xo : (s.accept v).xo = s.xo := rfl
@[simp] theorem State.accept_pcg : (s.accept v).pcg = s.pcg := rfl
@[simp] theorem State.accept_sm : (s.accept v).sm = s.sm := rfl
@[simp] theorem State.accept_ent : (s.accept v).ent = s.ent := rfl
@[simp] theorem State.accept_rst : (s.accept v).rst = s.rst := rfl
@[simp] theorem State.accept_port : (s.accept v).port = s.port := rfl
@[simp] theorem State.accept_rdata : (s.accept v).rdata = s.rdata := rfl
@[simp] theorem State.accept_windowPage : (s.accept v).windowPage = s.windowPage := rfl
@[simp] theorem State.accept_moves : (s.accept v).moves = s.moves := rfl

end accept

section raiseFault

variable (s : State) (c : Cause) (i : Word)

@[simp] theorem State.raiseFault_busy : (s.raiseFault c i).busy = false := rfl
@[simp] theorem State.raiseFault_fault : (s.raiseFault c i).fault = true := rfl
@[simp] theorem State.raiseFault_ovr : (s.raiseFault c i).ovr = s.ovr := rfl
@[simp] theorem State.raiseFault_lastCmd : (s.raiseFault c i).lastCmd = s.lastCmd := rfl
@[simp] theorem State.raiseFault_cause : (s.raiseFault c i).cause = some c := rfl
@[simp] theorem State.raiseFault_faultCmd : (s.raiseFault c i).faultCmd = s.seqCmd := rfl
@[simp] theorem State.raiseFault_faultInfo : (s.raiseFault c i).faultInfo = i := rfl
@[simp] theorem State.raiseFault_seed : (s.raiseFault c i).seed = s.seed := rfl
@[simp] theorem State.raiseFault_outLo : (s.raiseFault c i).outLo = s.outLo := rfl
@[simp] theorem State.raiseFault_outHi : (s.raiseFault c i).outHi = s.outHi := rfl
@[simp] theorem State.raiseFault_outbuf : (s.raiseFault c i).outbuf = s.outbuf := rfl
@[simp] theorem State.raiseFault_seqCmd : (s.raiseFault c i).seqCmd = s.seqCmd := rfl
@[simp] theorem State.raiseFault_seqSnap : (s.raiseFault c i).seqSnap = s.seqSnap := rfl
@[simp] theorem State.raiseFault_cc : (s.raiseFault c i).cc = s.cc := rfl
@[simp] theorem State.raiseFault_xo : (s.raiseFault c i).xo = s.xo := rfl
@[simp] theorem State.raiseFault_pcg : (s.raiseFault c i).pcg = s.pcg := rfl
@[simp] theorem State.raiseFault_sm : (s.raiseFault c i).sm = s.sm := rfl
@[simp] theorem State.raiseFault_ent : (s.raiseFault c i).ent = s.ent := rfl
@[simp] theorem State.raiseFault_rst : (s.raiseFault c i).rst = s.rst := rfl
@[simp] theorem State.raiseFault_port : (s.raiseFault c i).port = s.port := rfl
@[simp] theorem State.raiseFault_rdata : (s.raiseFault c i).rdata = s.rdata := rfl
@[simp] theorem State.raiseFault_windowPage : (s.raiseFault c i).windowPage = s.windowPage := rfl
@[simp] theorem State.raiseFault_moves : (s.raiseFault c i).moves = s.moves := rfl

end raiseFault

section releaseReset

variable (s : State)

@[simp] theorem State.releaseReset_busy : s.releaseReset.busy = State.reset.busy := rfl
@[simp] theorem State.releaseReset_fault : s.releaseReset.fault = State.reset.fault := rfl
@[simp] theorem State.releaseReset_ovr : s.releaseReset.ovr = State.reset.ovr := rfl
@[simp] theorem State.releaseReset_lastCmd : s.releaseReset.lastCmd = State.reset.lastCmd := rfl
@[simp] theorem State.releaseReset_cause : s.releaseReset.cause = State.reset.cause := rfl
@[simp] theorem State.releaseReset_faultCmd : s.releaseReset.faultCmd = State.reset.faultCmd := rfl
@[simp] theorem State.releaseReset_faultInfo : s.releaseReset.faultInfo = State.reset.faultInfo := rfl
@[simp] theorem State.releaseReset_seed : s.releaseReset.seed = State.reset.seed := rfl
@[simp] theorem State.releaseReset_outLo : s.releaseReset.outLo = State.reset.outLo := rfl
@[simp] theorem State.releaseReset_outHi : s.releaseReset.outHi = State.reset.outHi := rfl
@[simp] theorem State.releaseReset_outbuf : s.releaseReset.outbuf = State.reset.outbuf := rfl
@[simp] theorem State.releaseReset_seqCmd : s.releaseReset.seqCmd = State.reset.seqCmd := rfl
@[simp] theorem State.releaseReset_seqSnap : s.releaseReset.seqSnap = State.reset.seqSnap := rfl
@[simp] theorem State.releaseReset_cc : s.releaseReset.cc = State.reset.cc := rfl
@[simp] theorem State.releaseReset_xo : s.releaseReset.xo = State.reset.xo := rfl
@[simp] theorem State.releaseReset_pcg : s.releaseReset.pcg = State.reset.pcg := rfl
@[simp] theorem State.releaseReset_sm : s.releaseReset.sm = State.reset.sm := rfl
@[simp] theorem State.releaseReset_ent : s.releaseReset.ent = State.reset.ent := rfl
@[simp] theorem State.releaseReset_rst : s.releaseReset.rst = State.reset.rst := rfl
@[simp] theorem State.releaseReset_port : s.releaseReset.port = State.reset.port := rfl
@[simp] theorem State.releaseReset_rdata : s.releaseReset.rdata = State.reset.rdata := rfl
@[simp] theorem State.releaseReset_windowPage : s.releaseReset.windowPage = s.windowPage := rfl
@[simp] theorem State.releaseReset_moves : s.releaseReset.moves = s.moves := rfl

end releaseReset

end Sys2Proof.Machine
end

