-- ==== Sys2Proof/Laws/Units.lean ====
section
/-! SUPPORT. What the units' shared operations can do, once each: the byte order helpers, the counter, Regenerate, the fill loop, the
transitions, and the parts of ENT_FILL. -/

namespace Sys2Proof.Machine

/-! ### Words -/

@[simp] theorem lo32_le64 (a b : Word) : lo32 (le64 a b) = a := by
  apply BitVec.eq_of_getLsbD_eq
  intro i hi
  simp only [lo32, le64, BitVec.getLsbD_extractLsb', BitVec.getLsbD_append]
  simp [hi]

@[simp] theorem hi32_le64 (a b : Word) : hi32 (le64 a b) = b := by
  apply BitVec.eq_of_getLsbD_eq
  intro i hi
  simp only [hi32, le64, BitVec.getLsbD_extractLsb', BitVec.getLsbD_append]
  simp [hi]

@[simp] theorem le64_lo32_hi32 (v : DWord) : le64 (lo32 v) (hi32 v) = v := by
  apply BitVec.eq_of_getLsbD_eq
  intro i hi
  simp only [le64, lo32, hi32, BitVec.getLsbD_append, BitVec.getLsbD_extractLsb']
  split
  · simp_all
  · rename_i h
    have h2 : 32 + (i - 32) = i := by omega
    have h3 : i - 32 < 32 := by omega
    simp [h2, h3]

/-! ### The ChaCha unit -/

theorem regenerate_eq_none_iff (u : Chacha) :
    regenerate u = none ↔ blockCounter u.words = 0xFFFFFFFFFFFFFFFF#64 := by
  unfold regenerate
  split <;> simp_all

/-- Everything a Regenerate that does not fault does. -/
theorem regenerate_some {u v : Chacha} (h : regenerate u = some v) :
    blockCounter u.words ≠ 0xFFFFFFFFFFFFFFFF#64 ∧ v.buf = chachaBlock u.words u.rnd ∧
      v.words = bumpCounter u.words ∧ v.cur = u.cur ∧ v.rnd = u.rnd ∧ v.seeded = u.seeded := by
  unfold regenerate at h
  split at h
  · cases h
  · rename_i hc
    cases h
    exact ⟨hc, rfl, rfl, rfl, rfl, rfl⟩

/-- Everything a conditional renewal does: nothing, a fault, or a Regenerate with the cursor at 0. -/
theorem renewIf_cases (c : Bool) (u : Chacha) :
    (c = false ∧ renewIf c u = some u) ∨
    (c = true ∧ regenerate u = none ∧ renewIf c u = none) ∨
    (c = true ∧ ∃ v, regenerate u = some v ∧ renewIf c u = some { v with cur := 0#7 }) := by
  cases c with
  | false => exact .inl ⟨rfl, rfl⟩
  | true =>
    cases h : regenerate u with
    | none => exact .inr (.inl ⟨rfl, rfl, by simp [renewIf, h]⟩)
    | some v => exact .inr (.inr ⟨rfl, v, rfl, by simp [renewIf, h]⟩)

/-- A renewal keeps the round code and the seeded bit. -/
theorem renewIf_keeps {c : Bool} {u v : Chacha} (h : renewIf c u = some v) :
    v.rnd = u.rnd ∧ v.seeded = u.seeded := by
  obtain ⟨-, h1⟩ | ⟨-, -, h1⟩ | ⟨-, w, hw, h1⟩ := renewIf_cases c u
  · rw [h1] at h; cases h; exact ⟨rfl, rfl⟩
  · rw [h1] at h; cases h
  · rw [h1] at h; cases h
    exact ⟨(regenerate_some hw).2.2.2.2.1, (regenerate_some hw).2.2.2.2.2⟩

@[simp] theorem fillLoop_zero (u : Chacha) : fillLoop 0 u = (u, some []) := rfl

/-- One byte of the fill loop, once the buffer has a byte to give. -/
theorem fillLoop_succ_of_some {n : Nat} {u v : Chacha} (h : renewIf (decide (u.cur = 64#7)) u = some v) :
    fillLoop (n + 1) u =
      ((fillLoop n { v with cur := v.cur + 1#7 }).1,
        (fillLoop n { v with cur := v.cur + 1#7 }).2.map fun rest => bufByte v v.cur.toNat :: rest) := by
  simp [fillLoop, h]

/-- The fill loop where the stream is exhausted. -/
theorem fillLoop_succ_of_none {n : Nat} {u : Chacha} (h : renewIf (decide (u.cur = 64#7)) u = none) :
    fillLoop (n + 1) u = (u, none) := by
  simp [fillLoop, h]

/-- The fill loop keeps the round code and the seeded bit. -/
theorem fillLoop_keeps (n : Nat) (u : Chacha) :
    (fillLoop n u).1.rnd = u.rnd ∧ (fillLoop n u).1.seeded = u.seeded := by
  induction n generalizing u with
  | zero => exact ⟨rfl, rfl⟩
  | succ n ih =>
    cases h : renewIf (decide (u.cur = 64#7)) u with
    | none => rw [fillLoop_succ_of_none h]; exact ⟨rfl, rfl⟩
    | some v =>
      rw [fillLoop_succ_of_some h]
      obtain ⟨h1, h2⟩ := ih { v with cur := v.cur + 1#7 }
      obtain ⟨h3, h4⟩ := renewIf_keeps h
      exact ⟨h1.trans h3, h2.trans h4⟩

/-- Two fill loops one after the other are one fill loop. -/
theorem fillLoop_append {a b : Nat} {u v w : Chacha} {l m : List Byte} (h1 : fillLoop a u = (v, some l))
    (h2 : fillLoop b v = (w, some m)) : fillLoop (a + b) u = (w, some (l ++ m)) := by
  induction a generalizing u l with
  | zero => cases h1; simpa using h2
  | succ a ih =>
    cases hr : renewIf (decide (u.cur = 64#7)) u with
    | none => rw [fillLoop_succ_of_none hr] at h1; cases h1
    | some x =>
      rw [fillLoop_succ_of_some hr] at h1
      obtain ⟨hv, hl⟩ := Prod.mk.inj h1
      obtain ⟨l', hl', rfl⟩ := Option.map_eq_some_iff.mp hl
      rw [Nat.succ_add, fillLoop_succ_of_some hr, ih (Prod.ext hv hl')]
      rfl

/-- A fill loop that ends without a fault gives as many bytes as it was asked for. -/
theorem fillLoop_length {n : Nat} {u v : Chacha} {l : List Byte} (h : fillLoop n u = (v, some l)) :
    l.length = n := by
  induction n generalizing u v l with
  | zero => cases h; rfl
  | succ n ih =>
    cases hr : renewIf (decide (u.cur = 64#7)) u with
    | none => rw [fillLoop_succ_of_none hr] at h; cases h
    | some w =>
      rw [fillLoop_succ_of_some hr] at h
      obtain ⟨-, h2⟩ := Prod.mk.inj h
      cases hm : (fillLoop n { w with cur := w.cur + 1#7 }).2 with
      | none => rw [hm] at h2; cases h2
      | some m =>
        rw [hm] at h2
        cases h2
        simpa using ih (u := { w with cur := w.cur + 1#7 }) (Prod.ext rfl hm)

@[simp] theorem chachaLoaded_rnd (snap : Vector Word 10) (r : Rounds) (u : Chacha) :
    (chachaLoaded snap r u).rnd = r := rfl

@[simp] theorem chachaLoaded_seeded (snap : Vector Word 10) (r : Rounds) (u : Chacha) :
    (chachaLoaded snap r u).seeded = u.seeded := rfl

@[simp] theorem blockCounter_chachaLoaded (snap : Vector Word 10) (r : Rounds) (u : Chacha) :
    blockCounter (chachaLoaded snap r u).words = 0#64 := by
  simp [blockCounter, chachaLoaded, chachaInit, le64]

/-! ### The other generators -/

@[simp] theorem xoTransition_seeded (u : Xoshiro) : (xoTransition u).seeded = u.seeded := by
  simp only [xoTransition]

@[simp] theorem pcgStep_inc (u : Pcg) : (pcgStep u).inc = u.inc := by
  simp only [pcgStep]

@[simp] theorem pcgStep_seeded (u : Pcg) : (pcgStep u).seeded = u.seeded := by
  simp only [pcgStep]

/-! ### The entropy unit -/

@[simp] theorem aptUpdate_n (a : Apt) (x : Byte) : (aptUpdate a x).n = a.n + 1#9 := rfl

@[simp] theorem rctUpdate_value (r : Rct) (x : Byte) : (rctUpdate r x).value = x := by
  unfold rctUpdate
  split <;> simp_all

@[simp] theorem rctUpdate_valid (r : Rct) (x : Byte) : (rctUpdate r x).valid = true := by
  unfold rctUpdate
  split <;> simp_all

@[simp] theorem feedTests_nil (k : Nat) (r : Rct) (a : Apt) : feedTests [] k r a = (r, a, none) := rfl

/-- Storing a byte touches only the working state of the fill. -/
theorem storeByte_keeps (e : Ent) (b : Byte) :
    (storeByte e b).prev = e.prev ∧ (storeByte e b).prevValid = e.prevValid ∧ (storeByte e b).rct = e.rct ∧
      (storeByte e b).apt = e.apt ∧ (storeByte e b).phase = e.phase ∧ (storeByte e b).k = e.k + 1#7 := by
  unfold storeByte
  split <;> exact ⟨rfl, rfl, rfl, rfl, rfl, rfl⟩

/-- Everything the last step of a fill can be: a fault of step (c), a fault of step (d), or the completion. -/
theorem fillFinish_cases (len : BitVec 8) (s : State) :
    (∃ j, probeInData s.ent.probe.toList (s.ent.data.toList.take len.toNat) len.toNat = some j ∧
      fillFinish len s = s.raiseFault .entProbeInData (BitVec.ofNat 32 j)) ∨
    (∃ r a c k, feedTests (s.ent.probe.toList ++ s.ent.data.toList.take len.toNat) 0 s.ent.rct s.ent.apt
        = (r, a, some (c, k)) ∧
      fillFinish len s = (s.setEnt { s.ent with rct := r, apt := a }).raiseFault c (BitVec.ofNat 32 k)) ∨
    (∃ r a, feedTests (s.ent.probe.toList ++ s.ent.data.toList.take len.toNat) 0 s.ent.rct s.ent.apt
        = (r, a, none) ∧
      fillFinish len s = ((s.setEnt { s.ent with rct := r, apt := a, prev := s.ent.probe, prevValid := true, phase := .idle }).setOutbuf
        (s.ent.data.toList.take len.toNat)).complete) := by
  unfold fillFinish
  cases hp : probeInData s.ent.probe.toList (s.ent.data.toList.take len.toNat) len.toNat with
  | some j => exact .inl ⟨j, rfl, by simp [hp]⟩
  | none =>
    rcases hf : feedTests (s.ent.probe.toList ++ s.ent.data.toList.take len.toNat) 0 s.ent.rct s.ent.apt with ⟨r, a, o⟩
    cases o with
    | none => exact .inr (.inr ⟨r, a, rfl, by simp [hp, hf]⟩)
    | some ck => exact .inr (.inl ⟨r, a, ck.1, ck.2, rfl, by simp [hp, hf]⟩)

/-- Everything that follows the storing of a byte: the fault of step (a), the step to DATA, the last step of the fill, or waiting. -/
theorem fillAfterByte_cases (len : BitVec 8) (s : State) :
    (s.ent.k.toNat = 8 ∧ probeRepeats s.ent = true ∧ fillAfterByte len s = s.raiseFault .entProbeRepeat 0#32) ∨
    (s.ent.k.toNat = 8 ∧ probeRepeats s.ent = false ∧ len.toNat = 0 ∧
      fillAfterByte len s = fillFinish len (s.setEnt { s.ent with phase := .data })) ∨
    (s.ent.k.toNat = 8 ∧ probeRepeats s.ent = false ∧ len.toNat ≠ 0 ∧
      fillAfterByte len s = s.setEnt { s.ent with phase := .data }) ∨
    (s.ent.k.toNat ≠ 8 ∧ s.ent.k.toNat = 8 + len.toNat ∧ fillAfterByte len s = fillFinish len s) ∨
    (s.ent.k.toNat ≠ 8 ∧ s.ent.k.toNat ≠ 8 + len.toNat ∧ fillAfterByte len s = s) := by
  unfold fillAfterByte Config.probeBytes
  by_cases h8 : s.ent.k.toNat = 8
  · by_cases hr : probeRepeats s.ent = true
    · exact .inl ⟨h8, hr, by simp [h8, hr]⟩
    · have hr' : probeRepeats s.ent = false := by simpa using hr
      by_cases hl : len.toNat = 0
      · exact .inr (.inl ⟨h8, hr', hl, by simp [h8, hr', hl]⟩)
      · exact .inr (.inr (.inl ⟨h8, hr', hl, by simp [h8, hr', hl]⟩))
  · by_cases hk : s.ent.k.toNat = 8 + len.toNat
    · exact .inr (.inr (.inr (.inl ⟨h8, hk, by rw [if_neg h8, if_pos hk]⟩)))
    · exact .inr (.inr (.inr (.inr ⟨h8, hk, by simp [h8, hk]⟩)))

end Sys2Proof.Machine
end

