-- ==== Sys2Proof/Laws/Machine.lean ====
section
/-! SUPPORT. What the bus, the sequencer and a step can do, once each. -/

namespace Sys2Proof.Machine

/-! ### The bus -/

/-- An offset below 4096 is the offset of the address `P_BASE` plus it. -/
@[simp] theorem windowOffset_pBase {s : State} {off : Nat} (h : off < 4096) :
    windowOffset s (pBase s + off) = some off := by
  simp [windowOffset, Config.windowBytes, h]

/-- An address has an offset exactly where it lies in the window. -/
theorem windowOffset_eq_some_iff {s : State} {addr off : Nat} :
    windowOffset s addr = some off ↔ addr = pBase s + off ∧ off < 4096 := by
  unfold windowOffset Config.windowBytes
  split
  · rename_i h
    constructor
    · intro h2
      cases h2
      omega
    · intro h2
      congr 1
      omega
  · rename_i h
    constructor
    · intro h2
      cases h2
    · intro h2
      omega

/-- Everything the issue of a command can be: dropped in FAULTED, dropped with OVR in BUSY, accepted in IDLE. -/
theorem issue_cases (s : State) (v : Word) :
    (s.fault = true ∧ issue s v = s) ∨
    (s.fault = false ∧ s.busy = true ∧ issue s v = { s with ovr := true }) ∨
    (s.fault = false ∧ s.busy = false ∧ issue s v = s.accept v) := by
  unfold issue
  cases s.fault <;> cases s.busy <;> simp

/-- Everything a 32-bit write can be: an issue, a STATUS write, a SEED write, or nothing. -/
theorem writeReg_cases (s : State) (r : Reg) (v : Word) :
    (r = .cmd ∧ writeReg s r v = issue s v) ∨
    (r = .status ∧ writeReg s r v = writeStatus s v) ∨
    (∃ i, r = .seed i ∧ writeReg s r v = { s with seed := s.seed.set i v }) ∨
    ((∀ i, r ≠ .seed i) ∧ r ≠ .cmd ∧ r ≠ .status ∧ writeReg s r v = s) := by
  cases r <;> simp [writeReg]

/-- A write reaches no unit, no result, no fault register and none of the model's own fields. -/
theorem writeReg_keeps (s : State) (r : Reg) (v : Word) :
    (writeReg s r v).cc = s.cc ∧ (writeReg s r v).xo = s.xo ∧ (writeReg s r v).pcg = s.pcg ∧
      (writeReg s r v).sm = s.sm ∧ (writeReg s r v).ent = s.ent ∧ (writeReg s r v).outLo = s.outLo ∧
      (writeReg s r v).outHi = s.outHi ∧ (writeReg s r v).outbuf = s.outbuf ∧ (writeReg s r v).fault = s.fault ∧
      (writeReg s r v).cause = s.cause ∧ (writeReg s r v).faultCmd = s.faultCmd ∧
      (writeReg s r v).faultInfo = s.faultInfo ∧ (writeReg s r v).rst = s.rst ∧ (writeReg s r v).port = s.port ∧
      (writeReg s r v).rdata = s.rdata ∧ (writeReg s r v).windowPage = s.windowPage ∧
      (writeReg s r v).moves = s.moves := by
  obtain ⟨-, h⟩ | ⟨-, h⟩ | ⟨i, -, h⟩ | ⟨-, -, -, h⟩ := writeReg_cases s r v
  · obtain ⟨-, h2⟩ | ⟨-, -, h2⟩ | ⟨-, -, h2⟩ := issue_cases s v <;> rw [h, h2] <;> simp
  · rw [h]
    unfold writeStatus
    split <;> simp
  · rw [h]
    simp
  · rw [h]
    simp

/-- Everything a host's access can be: outside the window, under reset, admitted, or badly shaped. -/
theorem hostAccess_cases (s : State) (a : Access) :
    (windowOffset s a.addr = none ∧ hostAccess s a = .fault .outsideWindow) ∨
    (∃ off, windowOffset s a.addr = some off ∧
      ((s.rst = true ∧ hostAccess s a = .refused .accessInReset) ∨
       (s.rst = false ∧ a.bytes = 4 ∧ off % 4 = 0 ∧ hostAccess s a = .next (admitted s off a.kind)) ∨
       (s.rst = false ∧ ¬(a.bytes = 4 ∧ off % 4 = 0) ∧ hostAccess s a = .refused .badAccess))) := by
  unfold hostAccess
  cases h : windowOffset s a.addr with
  | none => exact .inl ⟨rfl, rfl⟩
  | some off =>
    refine .inr ⟨off, rfl, ?_⟩
    cases hr : s.rst with
    | true => exact .inl ⟨rfl, rfl⟩
    | false =>
      by_cases hb : a.bytes = 4 ∧ off % 4 = 0
      · exact .inr (.inl ⟨rfl, hb.1, hb.2, by simp [hb]⟩)
      · exact .inr (.inr ⟨rfl, hb, by simp [hb]⟩)

/-! ### The sequencer -/

theorem coreEnabled_iff (s : State) :
    coreEnabled s = true ↔ s.rst = false ∧ s.busy = true ∧ s.ent.phase = .idle := by
  simp [coreEnabled, and_assoc]

theorem entReq_iff (s : State) :
    entReq s = true ↔ s.rst = false ∧ s.busy = true ∧ s.ent.phase ≠ .idle := by
  simp [entReq, and_assoc]

@[simp] theorem entReq_with_moves (s : State) (ms : List Move) : entReq { s with moves := ms } = entReq s := rfl

@[simp] theorem coreEnabled_with_moves (s : State) (ms : List Move) :
    coreEnabled { s with moves := ms } = coreEnabled s := rfl

/-- The core's step on a legal word. -/
theorem runCommand_of_ok {s : State} {i : Instr} (h : decode s.seqCmd = .ok i) : runCommand s = exec i s := by
  simp [runCommand, h]

/-- The core's step on an illegal word. -/
theorem runCommand_of_error {s : State} {e : DecodeError} (h : decode s.seqCmd = .error e) :
    runCommand s = .next (s.raiseFault .illegalCmd (decodeInfo e)) := by
  simp [runCommand, h]

/-- A turn of the core is the step on `seq.cmd` or nothing. -/
theorem coreTurn_cases (s : State) :
    (coreEnabled s = true ∧ coreTurn s = runCommand s) ∨ (coreEnabled s = false ∧ coreTurn s = .next s) := by
  unfold coreTurn
  cases coreEnabled s <;> simp

/-- A source answer is the step on `seq.cmd` with the answer on the port, or refused. -/
theorem sourceAnswer_cases (s : State) (ans : Answer) :
    (entReq s = true ∧ sourceAnswer s ans = runCommand (s.setPort (some ans))) ∨
    (entReq s = false ∧ sourceAnswer s ans = .refused .answerWithoutRequest) := by
  unfold sourceAnswer
  cases entReq s <;> simp

/-- Everything the reset input can do. -/
theorem driveReset_cases (s : State) (b : Bool) :
    (b = true ∧ driveReset s b = { s with rst := true }) ∨
    (b = false ∧ s.rst = true ∧ driveReset s b = s.releaseReset) ∨
    (b = false ∧ s.rst = false ∧ driveReset s b = s) := by
  unfold driveReset
  cases b <;> cases s.rst <;> simp

/-! ### A step -/

/-- With no move left the step is a turn of the core. -/
theorem step_nil {s : State} (h : s.moves = []) : step s = coreTurn s := by
  simp [step, nextStep, h]

/-- A step is the first of the coming moves, taken off the list. -/
theorem step_cons {s : State} {m : Move} {rest : List Move} (h : s.moves = m :: rest) :
    step s = takeMove m { s with moves := rest } := by
  simp [step, nextStep, h]

@[simp] theorem takeMove_host (a : Access) (s : State) : takeMove (.host a) s = hostAccess s a := rfl
@[simp] theorem takeMove_core (s : State) : takeMove .core s = coreTurn s := rfl
@[simp] theorem takeMove_source (ans : Answer) (s : State) : takeMove (.source ans) s = sourceAnswer s ans := rfl
@[simp] theorem takeMove_rst (b : Bool) (s : State) : takeMove (.rst b) s = .next (driveReset s b) := rfl

/-- Everything a step that answers a next state can be: a turn in which nothing is enabled, a step of the core, an admitted access, a
step of a fill on a source answer, or the reset input. `u` is the state with the move, if there is one, taken off the list. -/
theorem step_next_cases {s t : State} (h : step s = .next t) :
    ∃ u, u = { s with moves := u.moves } ∧
      ((coreEnabled u = false ∧ t = u) ∨
       (coreEnabled u = true ∧ runCommand u = .next t) ∨
       (∃ a off, s.moves = .host a :: u.moves ∧ u.rst = false ∧ windowOffset u a.addr = some off ∧ a.bytes = 4 ∧
          off % 4 = 0 ∧ t = admitted u off a.kind) ∨
       (∃ ans, s.moves = .source ans :: u.moves ∧ entReq u = true ∧ runCommand (u.setPort (some ans)) = .next t) ∨
       (∃ b, s.moves = .rst b :: u.moves ∧ t = driveReset u b)) := by
  have turn : ∀ u : State, coreTurn u = .next t →
      (coreEnabled u = false ∧ t = u) ∨ (coreEnabled u = true ∧ runCommand u = .next t) := by
    intro u hu
    obtain ⟨he, hc⟩ | ⟨he, hc⟩ := coreTurn_cases u
    · exact .inr ⟨he, hc ▸ hu⟩
    · rw [hc] at hu
      cases hu
      exact .inl ⟨he, rfl⟩
  cases hm : s.moves with
  | nil =>
    rw [step_nil hm] at h
    exact ⟨s, rfl, (turn s h).elim .inl fun k => .inr (.inl k)⟩
  | cons m rest =>
    rw [step_cons hm] at h
    refine ⟨{ s with moves := rest }, rfl, ?_⟩
    cases m with
    | core => exact (turn _ h).elim .inl fun k => .inr (.inl k)
    | host a =>
      rw [takeMove_host] at h
      obtain ⟨-, h2⟩ | ⟨off, ho, ⟨-, h2⟩ | ⟨hr, hb, ha, h2⟩ | ⟨-, -, h2⟩⟩ := hostAccess_cases { s with moves := rest } a
      · rw [h2] at h; cases h
      · rw [h2] at h; cases h
      · rw [h2] at h
        cases h
        exact .inr (.inr (.inl ⟨a, off, rfl, hr, ho, hb, ha, rfl⟩))
      · rw [h2] at h; cases h
    | source ans =>
      rw [takeMove_source] at h
      obtain ⟨he, h2⟩ | ⟨-, h2⟩ := sourceAnswer_cases { s with moves := rest } ans
      · exact .inr (.inr (.inr (.inl ⟨ans, rfl, he, h2 ▸ h⟩)))
      · rw [h2] at h; cases h
    | rst b =>
      rw [takeMove_rst] at h
      cases h
      exact .inr (.inr (.inr (.inr ⟨b, rfl, rfl⟩)))

end Sys2Proof.Machine
end

