-- ==== Sys2Proof/Laws/PerInstr.lean ====
section
/-! SUPPORT. Statements made of every command as syntax, one lemma per constructor. -/

namespace Sys2Proof.Laws.HighHalfZero

/-- Bits 31:16 of every command word are 0: they are zero bits in all three formats (30_encoding.md rules R81, R82, R83). -/
def Statement (i : Instr) : Prop := (encode i).extractLsb' 16 16 = 0#16

/-- A word whose upper half is made of the zero field has a zero upper half. -/
theorem upper_half (len op : BitVec 8) : (encodeL len op).extractLsb' 16 16 = 0#16 := by
  apply BitVec.eq_of_getLsbD_eq
  intro i hi
  simp only [encodeL, BitVec.getLsbD_extractLsb', BitVec.getLsbD_append, BitVec.getLsbD_zero]
  split <;> first | omega | (split <;> first | omega | simp)

theorem nop : Statement .nop := rfl
theorem ccLoad (rnd : Rounds) : Statement (.ccLoad rnd) := by cases rnd <;> rfl
theorem ccNext32 : Statement .ccNext32 := rfl
theorem ccNext64 : Statement .ccNext64 := rfl
theorem ccFill (len : BitVec 8) : Statement (.ccFill len) := upper_half len _
theorem xoLoad : Statement .xoLoad := rfl
theorem xoSeed64 : Statement .xoSeed64 := rfl
theorem xoNext32 : Statement .xoNext32 := rfl
theorem xoNext64 : Statement .xoNext64 := rfl
theorem pcgLoad : Statement .pcgLoad := rfl
theorem pcgNext32 : Statement .pcgNext32 := rfl
theorem pcgNext64 : Statement .pcgNext64 := rfl
theorem smLoad : Statement .smLoad := rfl
theorem smNext64 : Statement .smNext64 := rfl
theorem entFill (len : BitVec 8) : Statement (.entFill len) := upper_half len _

end Sys2Proof.Laws.HighHalfZero
end

