-- ==== Sys2Proof/Tests/Slice0.lean ====
section
/-! SUPPORT. Tests of the model on values of 95_test_vectors.md (named V<n>, E<n>) and on words written out from 30_encoding.md, and for
every statement with hypotheses a state that meets them. -/

namespace Sys2Proof.Tests

open Sys2Proof Sys2Proof.Machine

/-- Whether an outcome is a next state of which `p` holds. -/
def answers (o : Host.Outcome State Fault Refusal) (p : State → Bool) : Bool :=
  match o with
  | .next t => p t
  | .fault _ | .refused _ => false

/-- What a test shows by `answers`: there is a next state, and it is as the test says. -/
theorem answers_iff (o : Host.Outcome State Fault Refusal) (p : State → Bool) :
    answers o p = true ↔ ∃ t, o = .next t ∧ p t = true := by
  cases o <;> simp [answers]

/-- The step that runs the command word `w` in the state `s`. -/
def run (s : State) (w : Nat) : Host.Outcome State Fault Refusal := step (s.withFetchWord 32 w)

/-- The reset state with these SEED registers, the others 0. -/
def seeded (l : List Word) : State := { State.reset with seed := Vector.ofFn fun i : Fin 10 => l.getD i.val 0#32 }

/-- Eight bytes, as a probe. -/
def P : Vector Byte 8 := #v[0x00#8, 0x01#8, 0x02#8, 0x03#8, 0x04#8, 0x05#8, 0x06#8, 0x07#8]

/-! ### Well-formedness: each check refuses a term -/

theorem test_wf_ccFill_len : (Instr.ccFill 64#8).wellFormed = true ∧ (Instr.ccFill 65#8).wellFormed = false := by decide
theorem test_wf_entFill_len : (Instr.entFill 0#8).wellFormed = true ∧ (Instr.entFill 65#8).wellFormed = false := by decide

/-! ### Decoding: a word written out bit by bit from the formats of R81 to R83 and the opcode map of R84, for every constructor -/

theorem test_decode_nop : decode 0b000000000000000000000000_00000000#32 = .ok .nop := by decide
theorem test_decode_ccLoad : decode 0b0000000000000000000000_10_00000001#32 = .ok (.ccLoad .r20) := by decide
theorem test_decode_ccLoad_r12 : decode 0b0000000000000000000000_01_00000001#32 = .ok (.ccLoad .r12) := by decide
theorem test_decode_ccNext32 : decode 0b000000000000000000000000_00000010#32 = .ok .ccNext32 := by decide
theorem test_decode_ccNext64 : decode 0b000000000000000000000000_00000011#32 = .ok .ccNext64 := by decide
theorem test_decode_ccFill : decode 0b0000000000000000_00111110_00000100#32 = .ok (.ccFill 62#8) := by decide
theorem test_decode_xoLoad : decode 0b000000000000000000000000_00010000#32 = .ok .xoLoad := by decide
theorem test_decode_xoSeed64 : decode 0b000000000000000000000000_00010001#32 = .ok .xoSeed64 := by decide
theorem test_decode_xoNext32 : decode 0b000000000000000000000000_00010010#32 = .ok .xoNext32 := by decide
theorem test_decode_xoNext64 : decode 0b000000000000000000000000_00010011#32 = .ok .xoNext64 := by decide
theorem test_decode_pcgLoad : decode 0b000000000000000000000000_00100000#32 = .ok .pcgLoad := by decide
theorem test_decode_pcgNext32 : decode 0b000000000000000000000000_00100001#32 = .ok .pcgNext32 := by decide
theorem test_decode_pcgNext64 : decode 0b000000000000000000000000_00100010#32 = .ok .pcgNext64 := by decide
theorem test_decode_smLoad : decode 0b000000000000000000000000_00110000#32 = .ok .smLoad := by decide
theorem test_decode_smNext64 : decode 0b000000000000000000000000_00110001#32 = .ok .smNext64 := by decide
theorem test_decode_entFill : decode 0b0000000000000000_00100000_01000000#32 = .ok (.entFill 32#8) := by decide

/-- V0: every kind of illegal word, with its FAULT_INFO. -/
theorem test_decode_illegal :
    decode 0x00000005#32 = .error .unknownOp ∧ decode 0xFFFFFFFF#32 = .error .unknownOp ∧
    decode 0x00000100#32 = .error .reservedBits ∧ decode 0x80000002#32 = .error .reservedBits ∧
    decode 0x00FF0004#32 = .error .reservedBits ∧ decode 0x00000701#32 = .error .reservedBits ∧
    decode 0x00004104#32 = .error .lenRange ∧ decode 0x00004140#32 = .error .lenRange ∧
    decode 0x00000301#32 = .error .rndIllegal := by decide

/-! ### One step of each command -/

/-- V0: the fault step of an illegal word. -/
theorem test_illegal_faults : answers (run State.reset 0x00004104) (fun t =>
    t.fault && !t.busy && t.cause == some .illegalCmd && t.faultInfo == 3#32 && t.faultCmd == 0x00004104#32
      && statusWord t == 0x00000002#32) = true := by decide

/-- R227's example. -/
theorem test_nop : answers (run { State.reset with lastCmd := 5#32 } 0) (fun t =>
    t == { State.reset with moves := [] }) = true := by decide

/-- V1 step 1: the first bytes of Block(0), the counter, and STATUS. -/
theorem test_ccLoad : answers (run State.reset 0x00000101) (fun t =>
    t.cc.buf[0] == 0x9b#8 && t.cc.buf[1] == 0xf4#8 && t.cc.buf[63] == 0xbe#8 && t.cc.words[12] == 1#32 && t.cc.cur == 0#7
      && statusWord t == 0x00000210#32) = true := by decide +kernel

/-- A seeded unit whose buffer byte i is i, at a cursor, with a counter. -/
def bufferAt (cur : BitVec 7) (lo hi : Word) : State :=
  { State.reset with cc := { (Chacha.reset) with
      words := (State.reset.cc.words.set 12 lo).set 13 hi, buf := Vector.ofFn fun i : Fin 64 => BitVec.ofNat 8 i.val
      cur := cur, seeded := true } }

/-- The slice is little-endian, and an unaligned one is legal (V4). -/
theorem test_ccNext32 : answers (run (bufferAt 57#7 1#32 0#32) 2) (fun t =>
    t.outLo == 0x3c3b3a39#32 && t.outHi == 0#32 && t.cc.cur == 61#7 && !t.busy) = true := by decide

/-- V3: exhaustion leaves the cursor and the results. -/
theorem test_ccNext32_exhausted : answers (run (bufferAt 64#7 0xFFFFFFFF#32 0xFFFFFFFF#32) 2) (fun t =>
    t.cause == some .ccExhausted && t.cc.cur == 64#7 && t.outLo == 0#32) = true := by decide

theorem test_ccNext64 : answers (run (bufferAt 56#7 1#32 0#32) 3) (fun t =>
    t.outLo == 0x3b3a3938#32 && t.outHi == 0x3f3e3d3c#32 && t.cc.cur == 64#7) = true := by decide

/-- V3: the carry into the high counter word. -/
theorem test_ccNext64_carry : answers (run (bufferAt 64#7 0xFFFFFFFF#32 0#32) 3) (fun t =>
    t.cc.words[12] == 0#32 && t.cc.words[13] == 1#32 && t.cc.cur == 8#7) = true := by decide

/-- R114: bytes, then zeros. -/
theorem test_ccFill : answers (run (bufferAt 3#7 1#32 0#32) 0x00000504) (fun t =>
    t.outbuf[0] == 3#8 && t.outbuf[4] == 7#8 && t.outbuf[5] == 0#8 && t.cc.cur == 8#7) = true := by decide

/-- V3: four bytes taken, then exhaustion: cursor 64, OUTBUF kept. -/
theorem test_ccFill_exhausted : answers (run (bufferAt 60#7 0xFFFFFFFF#32 0xFFFFFFFF#32) 0x00000804) (fun t =>
    t.cause == some .ccExhausted && t.cc.cur == 64#7 && t.outbuf == State.reset.outbuf) = true := by decide

/-- V5: the words of [1, 2, 3, 4]. -/
theorem test_xoLoad : answers (run (seeded [1#32, 0#32, 2#32, 0#32, 3#32, 0#32, 4#32, 0#32]) 0x10) (fun t =>
    t.xo == { s0 := 1#64, s1 := 2#64, s2 := 3#64, s3 := 4#64, seeded := true }) = true := by decide

/-- V6: the all-zero seed. -/
theorem test_xoLoad_zero : answers (run State.reset 0x10) (fun t =>
    t.cause == some .xoZeroSeed && t.faultInfo == 0#32 && statusWord t == 0x00000002#32) = true := by decide

/-- V6, second row. -/
theorem test_xoSeed64 : answers (run (seeded [0x12345678#32, 0x9abcdef0#32]) 0x11) (fun t =>
    t.xo == { s0 := 0xb8c4394435b60587#64, s1 := 0x4c5d6a2a00721bc3#64, s2 := 0xf33938c23ff54677#64
              s3 := 0x3e1ba9e1bd27f588#64, seeded := true }) = true := by decide

/-- V5 step 1. -/
theorem test_xoNext64 : answers (run { State.reset with xo := { s0 := 1#64, s1 := 2#64, s2 := 3#64, s3 := 4#64, seeded := true } } 0x13)
    (fun t => t.outLo == 0x02800001#32 && t.outHi == 0#32) = true := by decide

/-- V6, third row: the state after the output of [0, 0, 0, 1]. -/
theorem test_xoNext32 : answers (run { State.reset with
      outHi := 7#32, xo := { s0 := 0#64, s1 := 0#64, s2 := 0#64, s3 := 1#64, seeded := true } } 0x12)
    (fun t => t.outLo == 0x00800000#32 && t.outHi == 0#32
      && t.xo == { s0 := 1#64, s1 := 0#64, s2 := 0#64, s3 := 0x0000200000000000#64, seeded := true }) = true := by decide

/-- V8, last row: every seed bit set. -/
theorem test_pcgLoad : answers (run (seeded (List.replicate 10 0xFFFFFFFF#32)) 0x20) (fun t =>
    t.pcg.inc == 0xffffffffffffffffffffffffffffffff#128 && t.pcg.state == 0xb93e25f5c07344b778f44136c0661375#128) = true := by
  decide

/-- V8 step 1. -/
theorem test_pcgNext64 : answers (run { State.reset with pcg :=
      { state := 0xde2bce05be013be3d3f6c45a41e54320#128, inc := 0x6d#128, seeded := true } } 0x22)
    (fun t => t.outHi == 0x86b1da1d#32 && t.outLo == 0x72062b68#32) = true := by decide

/-- V8 step 1, its low half alone. -/
theorem test_pcgNext32 : answers (run { State.reset with outHi := 7#32, pcg :=
      { state := 0xde2bce05be013be3d3f6c45a41e54320#128, inc := 0x6d#128, seeded := true } } 0x21)
    (fun t => t.outHi == 0#32 && t.outLo == 0x72062b68#32) = true := by decide

/-- V9: the rotation amounts 0, 1, 32, 63. -/
theorem test_pcgOut :
    pcgOut 0x00000000000000010000000000000002#128 = 3#64 ∧
    pcgOut 0x04000000000000000000000000000001#128 = 0x8200000000000000#64 ∧
    pcgOut 0x80000000000000000000000000000000#128 = 0x80000000#64 ∧
    pcgOut 0xfc000000000000010000000000000000#128 = 0xf800000000000003#64 := by decide

theorem test_smLoad : answers (run (seeded [0x12345678#32, 0x9abcdef0#32]) 0x30) (fun t =>
    t.sm == { state := 0x9abcdef012345678#64, seeded := true }) = true := by decide

/-- V7, fourth row: the state wraps. -/
theorem test_smNext64 : answers (run { State.reset with sm := { state := 0xFFFFFFFFFFFFFFFF#64, seeded := true } } 0x31)
    (fun t => t.sm.state == 0x9e3779b97f4a7c14#64 && t.outHi == 0xe4d97177#32 && t.outLo == 0x1b652c20#32) = true := by
  decide

/-- V11: the unit in FAULT_INFO. -/
theorem test_unseeded :
    answers (run State.reset 4) (fun t => t.cause == some .unseeded && t.faultInfo == 0#32) = true ∧
    answers (run State.reset 0x12) (fun t => t.cause == some .unseeded && t.faultInfo == 1#32) = true ∧
    answers (run State.reset 0x22) (fun t => t.cause == some .unseeded && t.faultInfo == 2#32) = true ∧
    answers (run State.reset 0x31) (fun t => t.cause == some .unseeded && t.faultInfo == 3#32) = true := by decide

/-! ### ENT_FILL -/

/-- A fill of `len` bytes that has had `k` answers, with this probe and these data bytes, and this answer to come. -/
def filling (word : Word) (probe : Vector Byte 8) (data : List Byte) (k : BitVec 7) (phase : Phase) (ans : Answer) : State :=
  { State.reset with
    busy := true, seqCmd := word, moves := [.source ans]
    ent := { Ent.reset with probe := probe, data := padded data, k := k, phase := phase } }

theorem test_entFill_starts : answers (run State.reset 0x40) (fun t =>
    t.busy && t.ent.phase == .probe && t.ent.k == 0#7 && entReq t) = true := by decide

/-- E5: the last byte of a fill that passes. -/
theorem test_entFill_passes : answers (step (filling 0x440#32 P [9#8, 9#8, 9#8] 11#7 .data (.byte 0x0a#8))) (fun t =>
    !t.busy && !t.fault && readReg t (regAt 0x0C0) == 0x0a090909#32 && readReg t (regAt 0x140) == 0x0001010a#32
      && readReg t (regAt 0x144) == 0x000c0000#32 && statusWord t == 0x00000100#32) = true := by decide

/-- E4: a run of four, at stream index 11; the APT saw indices 0 to 10 only. -/
theorem test_entFill_rct : answers (step (filling 0x440#32 P [9#8, 9#8, 9#8] 11#7 .data (.byte 9#8))) (fun t =>
    t.cause == some .entRctFail && t.faultInfo == 11#32 && readReg t (regAt 0x140) == 0x00040109#32
      && readReg t (regAt 0x144) == 0x000b0000#32 && !t.ent.prevValid) = true := by decide

/-- E15: the smallest of two overlapping places. -/
theorem test_entFill_probe_in_data : answers (step (filling 0xb40#32 #v[1#8, 2#8, 1#8, 2#8, 1#8, 2#8, 1#8, 2#8]
      [3#8, 1#8, 2#8, 1#8, 2#8, 1#8, 2#8, 1#8, 2#8, 1#8] 18#7 .data (.byte 2#8))) (fun t =>
    t.cause == some .entProbeInData && t.faultInfo == 1#32 && t.ent.rct == State.reset.ent.rct) = true := by decide

/-- E9: an error answer, with the request's index. -/
theorem test_entFill_error : answers (step (filling 0x840#32 P [16#8, 17#8] 10#7 .data .error)) (fun t =>
    t.cause == some .entSourceFail && t.faultInfo == 10#32) = true := by decide

/-- E2: the same probe again; the fill of LEN 0. -/
theorem test_entFill_repeat :
    answers (step { filling 0x40#32 P [] 7#7 .probe (.byte 7#8) with
      ent := { Ent.reset with probe := P, prev := P, prevValid := true, k := 7#7, phase := .probe } }) (fun t =>
      t.cause == some .entProbeRepeat && t.ent.rct == State.reset.ent.rct) = true ∧
    answers (step (filling 0x40#32 P [] 7#7 .probe (.byte 7#8))) (fun t => !t.busy && !t.fault && t.ent.prev == P) = true := by
  decide

/-- E11: the thirteenth match. -/
theorem test_aptFails : feedTests [0x30#8, 0xaa#8] 0 { valid := true, value := 0x6d#8, run := 1#3 }
      { value := 0xaa#8, count := 12#4, n := 72#9 } =
    ({ valid := true, value := 0xaa#8, run := 1#3 }, { value := 0xaa#8, count := 13#4, n := 74#9 }, some (.entAptFail, 1)) := by
  decide

/-- The window's boundary: the byte after the 512th is the next reference (V10, last table). -/
theorem test_apt_window : aptUpdate (aptUpdate { value := 0#8, count := 2#4, n := 511#9 } 9#8) 10#8 =
    { value := 10#8, count := 0#4, n := 1#9 } := by decide

/-! ### The window and the sequencer -/

/-- V12: the constants, a reserved offset, and OVR. -/
theorem test_window_reads :
    readReg State.reset (regAt 0x000) = 0x534D5243#32 ∧ readReg State.reset (regAt 0x020) = 0#32 ∧
    regAt 0x064 = .seed 9 ∧ regAt 0x068 = .reserved ∧ regAt 0x0FC = .outbuf 15 := by decide

/-- V12: a CMD write while BUSY is dropped and sets OVR. -/
theorem test_dropped_write : answers (step { State.reset with busy := true, lastCmd := 1#32, moves := [writeAt State.reset 0 0x00C 0x13#32] })
    (fun t => t.ovr && t.lastCmd == 1#32 && t.busy) = true := by decide

/-- V12: STATUS bits 0 and 1 cannot be written, bit 2 clears OVR. -/
theorem test_status_write :
    (writeStatus { State.reset with ovr := true } 4#32).ovr = false ∧
    writeStatus { State.reset with ovr := true } 3#32 = { State.reset with ovr := true } := by decide

/-- R270: releasing reset in the middle of a command. -/
theorem test_release : answers (step { State.reset with rst := true, busy := true, outLo := 5#32, moves := [.rst false] })
    (fun t => t == State.reset) = true := by decide

/-- R63, R270: what is refused, and the model's one fault. -/
theorem test_refusals :
    hostAccess State.reset { host := 0, addr := 2, bytes := 4, kind := .read } = .refused .badAccess ∧
    hostAccess State.reset { host := 0, addr := 0, bytes := 1, kind := .read } = .refused .badAccess ∧
    hostAccess { State.reset with rst := true } { host := 0, addr := 0, bytes := 4, kind := .read } = .refused .accessInReset ∧
    hostAccess State.reset { host := 0, addr := 4096, bytes := 4, kind := .read } = .fault .outsideWindow ∧
    sourceAnswer State.reset .error = .refused .answerWithoutRequest := ⟨rfl, rfl, rfl, rfl, rfl⟩

/-! ### Witnesses: for each statement with hypotheses, a state and operands that meet them together; one for each clause, at the ends of its
range -/

/-- A state that an UNSEEDED fault has left. -/
def faulted : State := State.reset.raiseFault .unseeded 0#32

/-- A state that waits for the first byte of the probe of a fill. -/
def waiting : State := { State.reset with busy := true, seqCmd := 0x440#32, ent := { Ent.reset with phase := .probe } }

/-- The access of host 0 at an address. -/
def accessOf (addr bytes : Nat) (kind : AccessKind) : Access := { host := 0, addr := addr, bytes := bytes, kind := kind }

theorem test_witness_DecodeOfEncode :
    (Instr.ccFill 0#8).wellFormed = true ∧ (Instr.ccFill 64#8).wellFormed = true ∧ (Instr.entFill 64#8).wellFormed = true := by decide

theorem test_witness_EncodeOfDecode : decode 0x00004040#32 = .ok (.entFill 64#8) ∧ decode 0x00000201#32 = .ok (.ccLoad .r20) := by decide

/-- One word for each clause: 0x05 and 0xFF are no opcode, 0xFF0004 has a zero bit set, 0x4104 has LEN 65, 0x301 has RND 3, 0x4004 passes. -/
theorem test_witness_DecodeChecksInOrder :
    ((0x000000FF#32 : Word).extractLsb' 0 8).toNat ∉
      [0x00, 0x02, 0x03, 0x10, 0x11, 0x12, 0x13, 0x20, 0x21, 0x22, 0x30, 0x31, 0x04, 0x40, 0x01] ∧
    ((0x00FF0004#32 : Word).extractLsb' 0 8).toNat = 0x04 ∧ (0x00FF0004#32 : Word).extractLsb' 16 16 ≠ 0#16 ∧
    (0x00004104#32 : Word).extractLsb' 16 16 = 0#16 ∧ 64 < ((0x00004104#32 : Word).extractLsb' 8 8).toNat ∧
    (0x00000301#32 : Word).extractLsb' 10 22 = 0#22 ∧ (0x00000301#32 : Word).extractLsb' 8 2 = 3#2 ∧
    (0x00004004#32 : Word).extractLsb' 16 16 = 0#16 ∧ ¬64 < ((0x00004004#32 : Word).extractLsb' 8 8).toNat := by decide

theorem test_witness_StepRunsDecodedCommand :
    (decode 0#32 = .ok .nop ∧ coreEnabled (State.reset.accept 0#32) = true ∧ (State.reset.accept 0#32).moves = [] ∧
      (State.reset.withFetchWord 32 0).moves = .core :: [] ∧ coreEnabled (State.reset.withFetchWord 32 0) = true) ∧
    decode waiting.seqCmd = .ok (.entFill 4#8) ∧ entReq { waiting with moves := [.source (.byte 0#8)] } = true ∧
    coreEnabled waiting = false := by
  decide

/-- A step with each of the other moves next: a host's write, an answer, and the two levels of the reset input. -/
theorem test_witness_StepRunsDecodedCommand_moves :
    answers (step { State.reset with moves := [writeAt State.reset 0 0x040 5#32] }) (fun t => t.seed[0] == 5#32 && t.moves == []) = true ∧
    answers (step { waiting with moves := [.source (.byte 5#8)] }) (fun t => t.ent.probe[0] == 5#8) = true ∧
    answers (step { waiting with moves := [.rst true] }) (fun t => t == { waiting with rst := true }) = true ∧
    (State.reset.rst = false ∧ answers (step { waiting with moves := [.rst false] }) (fun t => t == waiting) = true) := by decide

theorem test_witness_CmdWriteInIdleAccepted : State.reset.rst = false ∧ isIdle State.reset := by decide

theorem test_witness_CmdWriteDropped :
    (waiting.rst = false ∧ isBusy waiting) ∧ (faulted.rst = false ∧ isFaulted faulted) ∧
    answers (step { State.reset with ovr := true, moves := [writeAt State.reset 0 0x008 4#32] }) (fun t => !t.ovr) = true := by
  decide

theorem test_witness_OtherCommandsEndInOneStep :
    coreEnabled (State.reset.accept 0xFFFFFFFF#32) = true ∧ decode 0xFFFFFFFF#32 = .error .unknownOp ∧
    coreEnabled (State.reset.accept 0x31#32) = true ∧ decode 0x31#32 = .ok .smNext64 := by decide

theorem test_witness_StuckStaysStuck : isStuck waiting := by decide

theorem test_witness_OnlyAlignedWordsAdmitted :
    State.reset.rst = false ∧ 4092 < 4096 ∧ 4092 % 4 = 0 ∧ 4095 < 4096 ∧ ¬(4 = 4 ∧ 4095 % 4 = 0) ∧ ¬(8 = 4 ∧ 0 % 4 = 0) := by decide

theorem test_witness_WindowBoundsAndHosts :
    (accessOf 4095 4 .read).addr < pBase { State.reset with windowPage := 1 } ∧
    pBase { State.reset with windowPage := 1 } + 4096 ≤ (accessOf 8192 4 .read).addr := by decide

/-- The reserved offsets next to the map's ranges. -/
theorem test_witness_RegisterMapReads : ∀ off ∈ [0x01C, 0x03C, 0x068, 0x07C, 0x088, 0x0BC, 0x10C, 0x13C, 0x148, 0xFFC],
    off % 4 = 0 ∧ off < 4096 ∧
    off ∉ [0x000, 0x004, 0x008, 0x00C, 0x010, 0x014, 0x018, 0x080, 0x084, 0x100, 0x104, 0x108, 0x140, 0x144] ∧
    ¬(0x040 ≤ off ∧ off ≤ 0x064) ∧ ¬(0x0C0 ≤ off ∧ off ≤ 0x0FC) := by decide

theorem test_witness_WindowIsLittleEndian : 0x000 % 4 = 0 ∧ 0x0FC % 4 = 0 ∧ 0xFFC % 4 = 0 := by decide

theorem test_witness_AccessEffects :
    (∀ off ∈ [0x000, 0x03C, 0x068, 0x0FC, 0xFFC], off % 4 = 0 ∧ off ≠ 0x00C ∧ off ≠ 0x008 ∧ ¬(0x040 ≤ off ∧ off ≤ 0x064)) ∧
    isIdle State.reset ∧ State.reset.ovr = false := by decide

theorem test_witness_FaultStepAndResults :
    (answers (exec .xoNext64 State.reset) (fun t => t.fault) = true ∧ State.reset.fault = false) ∧
    (answers (step faulted) (fun t => t.fault) = true ∧ faulted.fault = true) := by decide

/-- A fault of a generator command, of XO_LOAD, of exhaustion, and one of ENT_FILL at the last request of the longest fill. -/
theorem test_witness_FaultCausesOfCommands :
    (Instr.ccFill 64#8).wellFormed = true ∧ answers (exec (.ccFill 64#8) State.reset) (fun t => t.fault) = true ∧
    answers (exec .xoLoad State.reset) (fun t => t.fault) = true ∧
    answers (exec .ccNext64 (bufferAt 57#7 0xFFFFFFFF#32 0xFFFFFFFF#32)) (fun t => t.fault) = true ∧
    (Instr.entFill 64#8).wellFormed = true ∧ (71#7 : BitVec 7).toNat < 8 + (64#8 : BitVec 8).toNat ∧
    answers (exec (.entFill 64#8) ((filling 0x4040#32 P [] 71#7 .data .error).setPort (some .error)))
      (fun t => t.fault && t.faultInfo == 71#32) = true := by decide

theorem test_witness_UnseededCheck :
    State.reset.cc.seeded = false ∧ State.reset.xo.seeded = false ∧ State.reset.pcg.seeded = false ∧ State.reset.sm.seeded = false ∧
    (Instr.ccFill 0#8).wellFormed = true ∧ (Instr.ccFill 64#8).wellFormed = true ∧
    answers (exec .nop faulted) (fun t => t.cause == some .unseeded) = true := by decide

theorem test_witness_FaultedIsTerminal :
    isFaulted faulted ∧ answers (step faulted) (fun t => t.fault) = true ∧ ¬releasesReset faulted ∧
    faulted.rst = false ∧ 4092 < 4096 ∧ 4092 % 4 = 0 := by decide

theorem test_witness_ReleaseOfResetClearsAll :
    ({ waiting with rst := true, moves := [.rst false, .core] } : State).rst = true ∧
    ({ waiting with rst := true, moves := [.rst false, .core] } : State).moves = .rst false :: [.core] := by decide

theorem test_witness_AssertedResetHolds :
    ({ waiting with rst := true } : State).rst = true ∧ pBase waiting ≤ 4095 ∧ 4095 < pBase waiting + 4096 ∧
    answers (step { waiting with rst := true }) (fun t => t.rst) = true ∧
    State.reset.rst = false ∧ State.reset.busy = false ∧ State.reset.ent.phase = .idle := by decide

/-- A step of a fill from a state of the invariant that is not the reset state. -/
theorem test_witness_StepKeepsSequencerInvariant :
    SeqInv { waiting with moves := [.source (.byte 5#8)] } ∧
    answers (step { waiting with moves := [.source (.byte 5#8)] }) (fun t => t.ent.k == 1#7) = true := by decide

/-- CC_NEXT32 on the unit that CC_LOAD leaves. -/
theorem test_witness_StepKeepsKeystreamInvariant :
    ChachaInv { State.reset with cc := { (Chacha.reset) with cur := 64#7 } } ∧
    answers (step { State.reset with cc := { (Chacha.reset) with cur := 64#7 } }) (fun t => t.cc.cur == 64#7) = true ∧
    answers (run State.reset 0x00000001) (fun t => t.cc.seeded && decide (ChachaInv t)) = true := by decide +kernel

theorem test_witness_StepKeepsGeneratorsValid :
    XoInv { State.reset with xo := { s0 := 0#64, s1 := 0#64, s2 := 0#64, s3 := 1#64, seeded := true } } ∧
    PcgInv { State.reset with pcg := { state := 0#128, inc := 1#128, seeded := true } } ∧
    answers (step { State.reset with xo := { s0 := 0#64, s1 := 0#64, s2 := 0#64, s3 := 1#64, seeded := true } })
      (fun t => t.xo.seeded) = true ∧
    answers (step { State.reset with pcg := { state := 0#128, inc := 1#128, seeded := true } }) (fun t => t.pcg.seeded) = true := by
  decide

/-- The bounds at a failing byte: run 3 before it, 4 after it. -/
theorem test_witness_StepKeepsHealthBounds :
    HealthInv { (filling 0x440#32 P [9#8, 9#8, 9#8] 11#7 .data (.byte 9#8)) with ent :=
      { (filling 0x440#32 P [9#8, 9#8, 9#8] 11#7 .data (.byte 9#8)).ent with rct := { valid := true, value := 0#8, run := 3#3 } } } ∧
    answers (step { (filling 0x440#32 P [9#8, 9#8, 9#8] 11#7 .data (.byte 9#8)) with ent :=
      { (filling 0x440#32 P [9#8, 9#8, 9#8] 11#7 .data (.byte 9#8)).ent with rct := { valid := true, value := 0#8, run := 3#3 } } })
      (fun t => t.fault && t.ent.rct.run == 4#3) = true := by decide

theorem test_witness_CommandsWriteTheirRowOnly :
    answers (exec .smLoad State.reset) (fun t => t.sm.seeded) = true ∧
    (∀ p ∈ [Part.cc, .xo, .pcg, .ent, .out, .outbuf], p ∉ writesOf .smLoad) ∧ Part.sm ∉ writesOf .xoSeed64 := by decide

theorem test_witness_NextCommandsWindowFrame :
    Instr.smNext64 ∈ [.ccNext32, .ccNext64, .xoNext32, .xoNext64, .pcgNext32, .pcgNext64, Instr.smNext64] ∧
    answers (exec .smNext64 State.reset) (fun t => t.fault) = true ∧
    (∀ x ∈ [0x007, 0x00C, 0x00F, 0x01C, 0x07F, 0x088, 0x0FF, 0x10C], ¬(0x008 ≤ x ∧ x < 0x00C) ∧ ¬(0x010 ≤ x ∧ x < 0x01C) ∧
      ¬(0x080 ≤ x ∧ x < 0x088) ∧ ¬(0x100 ≤ x ∧ x < 0x10C)) ∧
    (15 : Fin 16).val ≠ 12 ∧ (15 : Fin 16).val ≠ 13 := by decide

theorem test_witness_LoadCommandsWindowFrame :
    Instr.nop ∈ [Instr.nop, .ccLoad .r8, .ccLoad .r12, .ccLoad .r20, .xoLoad, .xoSeed64, .pcgLoad, .smLoad] ∧
    answers (exec .nop State.reset) (fun t => !t.busy) = true ∧ Part.cc ∉ writesOf .nop ∧
    (∀ x ∈ [0x007, 0x00C, 0x00F, 0x01C, 0x0FF, 0x10C], ¬(0x008 ≤ x ∧ x < 0x00C) ∧ ¬(0x010 ≤ x ∧ x < 0x01C) ∧
      ¬(0x100 ≤ x ∧ x < 0x10C)) := by decide

/-- Both fills completing, with LEN 64 for the ChaCha unit and LEN 0 for the entropy unit. -/
theorem test_witness_FillCommandsWindowFrame :
    (Instr.ccFill 64#8).wellFormed = true ∧
    answers (exec (.ccFill 64#8) (bufferAt 0#7 1#32 0#32)) (fun t => !t.fault) = true ∧
    (Instr.ccFill 0#8).wellFormed = true ∧
    answers (exec (.entFill 0#8) ((filling 0x40#32 P [] 7#7 .probe (.byte 7#8)).setPort (some (.byte 7#8))))
      (fun t => !t.fault && !t.busy) = true ∧
    (∀ x ∈ [0x007, 0x00C, 0x01C, 0x0BF, 0x10C, 0x13F, 0x148], ¬(0x008 ≤ x ∧ x < 0x00C) ∧ ¬(0x010 ≤ x ∧ x < 0x01C) ∧
      ¬(0x0C0 ≤ x ∧ x < 0x10C) ∧ ¬(0x140 ≤ x ∧ x < 0x148)) := by decide

theorem test_witness_UnitsDoNotInterfere : Part.cc ∉ writesOf .xoLoad ∧ Part.xo ∉ writesOf (.entFill 64#8) ∧ Part.pcg ∉ writesOf .smLoad ∧
    Part.sm ∉ writesOf .xoSeed64 ∧ Part.ent ∉ writesOf (.ccFill 64#8) := by decide

theorem test_witness_NopOnlyCompletes :
    (0x80000000#32 : Word).extractLsb' 0 8 = 0#8 ∧ (0x80000000#32 : Word).extractLsb' 8 24 ≠ 0#24 ∧
    isIdle State.reset ∧ isBusy waiting := by decide

theorem test_witness_QuarterRoundLanes : (0 : Fin 16) ≠ 4 ∧ (0 : Fin 16) ≠ 8 ∧ (0 : Fin 16) ≠ 12 ∧ (4 : Fin 16) ≠ 8 ∧ (4 : Fin 16) ≠ 12 ∧
    (8 : Fin 16) ≠ 12 ∧ (15 : Fin 16) ≠ 0 := by decide

/-- The exhausted counter, and the last that is not. -/
theorem test_witness_RegenerateNextBlock :
    (bufferAt 64#7 0xFFFFFFFF#32 0xFFFFFFFF#32).cc.words[13] ++ (bufferAt 64#7 0xFFFFFFFF#32 0xFFFFFFFF#32).cc.words[12]
      = 0xFFFFFFFFFFFFFFFF#64 ∧
    (bufferAt 64#7 0xFFFFFFFE#32 0xFFFFFFFF#32).cc.words[13] ++ (bufferAt 64#7 0xFFFFFFFE#32 0xFFFFFFFF#32).cc.words[12]
      ≠ 0xFFFFFFFFFFFFFFFF#64 := by decide

theorem test_witness_CcLoadConstructs :
    (0x00000701#32 : Word).extractLsb' 0 8 = 0x01#8 ∧ (0x00000701#32 : Word).extractLsb' 10 22 ≠ 0#22 ∧
    (0x00000301#32 : Word).extractLsb' 0 8 = 0x01#8 ∧ (0x00000301#32 : Word).extractLsb' 10 22 = 0#22 ∧
    (0x00000301#32 : Word).extractLsb' 8 2 = 3#2 := by decide

/-- Cursor 60, the last that does not renew, and 61, exhausted and not. -/
theorem test_witness_CcNext32Slice :
    State.reset.cc.seeded = false ∧
    (bufferAt 60#7 1#32 0#32).cc.seeded = true ∧ (bufferAt 60#7 1#32 0#32).cc.cur.toNat + 4 ≤ 64 ∧
    64 < (bufferAt 61#7 1#32 0#32).cc.cur.toNat + 4 ∧ (regenerate (bufferAt 61#7 1#32 0#32).cc).isSome = true ∧
    regenerate (bufferAt 61#7 0xFFFFFFFF#32 0xFFFFFFFF#32).cc = none := by decide

/-- Cursor 56, the last that does not renew, and 57, exhausted and not. -/
theorem test_witness_CcNext64Slice :
    State.reset.cc.seeded = false ∧
    (bufferAt 56#7 1#32 0#32).cc.seeded = true ∧ (bufferAt 56#7 1#32 0#32).cc.cur.toNat + 8 ≤ 64 ∧
    64 < (bufferAt 57#7 1#32 0#32).cc.cur.toNat + 8 ∧ (regenerate (bufferAt 57#7 1#32 0#32).cc).isSome = true ∧
    regenerate (bufferAt 57#7 0xFFFFFFFF#32 0xFFFFFFFF#32).cc = none := by decide

/-- The ends of the ranges: LEN 64 from cursor 0, LEN 0 from cursor 64, and LEN 1 from cursor 64, exhausted and not. -/
theorem test_witness_CcFillBytes :
    State.reset.cc.seeded = false ∧ State.reset.cc.cur.toNat ≤ 64 ∧
    (bufferAt 0#7 1#32 0#32).cc.seeded = true ∧ (bufferAt 0#7 1#32 0#32).cc.cur.toNat + (64#8 : BitVec 8).toNat ≤ 64 ∧
    (bufferAt 64#7 1#32 0#32).cc.cur.toNat + (0#8 : BitVec 8).toNat ≤ 64 ∧
    64 < (bufferAt 64#7 1#32 0#32).cc.cur.toNat + (1#8 : BitVec 8).toNat ∧ (regenerate (bufferAt 64#7 1#32 0#32).cc).isSome = true ∧
    regenerate (bufferAt 64#7 0xFFFFFFFF#32 0xFFFFFFFF#32).cc = none := by decide

/-- A second fill that passes the end of the buffer. -/
theorem test_witness_CcFillsAreContiguous :
    (32#8 : BitVec 8).toNat + (32#8 : BitVec 8).toNat ≤ 64 ∧ (bufferAt 31#7 1#32 0#32).fault = false ∧
    answers (exec (.ccFill 32#8) (bufferAt 31#7 1#32 0#32)) (fun t =>
      !t.fault && answers (exec (.ccFill 32#8) t) (fun u => !u.fault && u.cc.cur == 31#7)) = true := by decide

theorem test_witness_CcNext64IsTwoNext32 :
    (bufferAt 56#7 1#32 0#32).cc.seeded = true ∧ (bufferAt 56#7 1#32 0#32).cc.cur.toNat ≤ 56 ∧
    (bufferAt 64#7 1#32 0#32).cc.cur = 64#7 ∧ regenerate (bufferAt 64#7 1#32 0#32).cc ≠ none := by decide

theorem test_witness_XoLoadSeeds :
    (∀ i : Fin 8, State.reset.seqSnap[i.val] = 0#32) ∧
    ¬(∀ i : Fin 8, ({ State.reset with seqSnap := State.reset.seqSnap.set 7 1#32 } : State).seqSnap[i.val] = 0#32) := by decide

theorem test_witness_XoNextOutputs :
    ({ State.reset with xo := { s0 := 1#64, s1 := 2#64, s2 := 3#64, s3 := 4#64, seeded := true } } : State).xo.seeded = true ∧
    State.reset.xo.seeded = false := by decide

theorem test_witness_SmCommands :
    ({ State.reset with sm := { state := 0#64, seeded := true } } : State).sm.seeded = true ∧ State.reset.sm.seeded = false := by decide

theorem test_witness_PcgLoadConstructs :
    State.reset.seqSnap = waiting.seqSnap ∧ answers (exec .pcgLoad State.reset) (fun t => t.pcg.seeded) = true ∧
    answers (exec .pcgLoad waiting) (fun t => t.pcg.inc == 1#128) = true := by decide

theorem test_witness_PcgNextOutputs :
    ({ State.reset with pcg := { state := 0#128, inc := 1#128, seeded := true } } : State).pcg.seeded = true ∧
    State.reset.pcg.seeded = false := by decide

/-- The probe found, at the end of the data, and not found, in data too short for it. -/
theorem test_witness_ProbeInDataSmallest :
    P.toList.length = 8 ∧ probeInData P.toList (9#8 :: P.toList) (9#8 :: P.toList).length = some 1 ∧
    probeInData P.toList (P.toList.take 7) (P.toList.take 7).length = none := by decide

theorem test_witness_TestsFeedOneByte : (3#3 : BitVec 3).toNat ≤ 3 ∧ (12#4 : BitVec 4).toNat ≤ 12 := by decide

theorem test_witness_PassingStreamHasNoRunOfFour :
    (0#3 : BitVec 3).toNat ≤ 3 ∧ (0#4 : BitVec 4).toNat ≤ 12 ∧
    (feedTests [9#8, 9#8, 9#8, 10#8, 9#8] 0 Ent.reset.rct Ent.reset.apt).2.2 = none := by decide

theorem test_witness_PassingWindowHasFewMatches :
    Ent.reset.apt.n = 0#9 ∧ [8#8, 9#8, 9#8].length < 512 ∧
    (feedTests [9#8, 8#8, 9#8, 9#8] 0 Ent.reset.rct Ent.reset.apt).2.2 = none := by decide

/-- The start of the longest fill, a byte at requests 0 and 6, and at requests 8 and 70. -/
theorem test_witness_EntFillStartsAndStores :
    (64#8 : BitVec 8).toNat ≤ 64 ∧ (State.reset.accept 0x4040#32).rst = false ∧ (State.reset.accept 0x4040#32).busy = true ∧
    (State.reset.accept 0x4040#32).ent.phase = .idle ∧
    (waiting.setPort (some (.byte 5#8))).ent.phase ≠ .idle ∧ (waiting.setPort (some (.byte 5#8))).port = some (.byte 5#8) ∧
    (0#7 : BitVec 7).toNat < 7 ∧ (6#7 : BitVec 7).toNat < 7 ∧
    8 ≤ (8#7 : BitVec 7).toNat ∧ (70#7 : BitVec 7).toNat < 7 + (64#8 : BitVec 8).toNat := by decide

/-- An error, a probe that repeats, a first probe, and another probe. -/
theorem test_witness_EntFillErrorAndProbeCheck :
    let e : Ent := { Ent.reset with probe := P, k := 7#7, phase := .probe }
    (waiting.setPort (some .error)).port = some .error ∧ e.phase ≠ .idle ∧ e.k = 7#7 ∧ e.prevValid = false ∧
    ({ e with prev := P, prevValid := true } : Ent).probe.set 7 7#8 = P ∧ P.set 7 8#8 ≠ P ∧ 0 < (1#8 : BitVec 8).toNat := by
  decide

/-- The three ends of a fill of four bytes, and the index of the last byte of the longest fill. -/
theorem test_witness_EntFillLastByte :
    let s := filling 0x440#32 P [9#8, 9#8, 9#8] 11#7 .data (.byte 9#8)
    (4#8 : BitVec 8).toNat ≤ 64 ∧ s.ent.phase = .data ∧ (s.setPort (some (.byte 9#8))).port = some (.byte 9#8) ∧
    0 < (4#8 : BitVec 8).toNat ∧ s.ent.k.toNat = 7 + (4#8 : BitVec 8).toNat ∧ (71#7 : BitVec 7).toNat = 7 + (64#8 : BitVec 8).toNat ∧
    probeInData s.ent.probe.toList ((s.ent.data.set 3 9#8).toList.take 4) 4 = none ∧
    (feedTests (s.ent.probe.toList ++ (s.ent.data.set 3 9#8).toList.take 4) 0 s.ent.rct s.ent.apt).2.2 = some (.entRctFail, 11) ∧
    (feedTests (s.ent.probe.toList ++ (s.ent.data.set 3 8#8).toList.take 4) 0 s.ent.rct s.ent.apt).2.2 = none ∧
    probeInData P.toList P.toList 8 = some 0 := by decide

/-- An enabled fill of no bytes, with the first probe to come. -/
theorem test_witness_EntFillRunsWhole :
    let s : State := { State.reset.accept 0x40#32 with moves := .core :: (byteAnswers (P.toList ++ []) ++ []) }
    (0#8 : BitVec 8).toNat ≤ 64 ∧ ([] : List Byte).length = (0#8 : BitVec 8).toNat ∧ coreEnabled s = true ∧ s.fault = false ∧
    decode s.seqCmd = .ok (.entFill 0#8) ∧ s.ent.prevValid = false := by decide

/-- An enabled fill whose source gives the previous probe again. -/
theorem test_witness_EntFillFrozenSource :
    let s : State := { State.reset.accept 0x4040#32 with
      ent := { Ent.reset with prev := P, prevValid := true }, moves := .core :: (byteAnswers P.toList ++ []) }
    (64#8 : BitVec 8).toNat ≤ 64 ∧ coreEnabled s = true ∧ s.fault = false ∧ decode s.seqCmd = .ok (.entFill 64#8) ∧
    s.ent.prevValid = true ∧ s.moves = .core :: (byteAnswers s.ent.prev.toList ++ []) := by decide

end Sys2Proof.Tests
end

section
/-! A run of the machine, one step at a time, and the runs that have come to rest. -/

namespace Sys2Proof.Machine

/-! ### Runs -/

@[simp] theorem core_run_zero (s : State) : core.run 0 s = .next s := rfl

/-- A run whose first step answers a next state goes on from there. -/
theorem core_run_succ_of_next {s t : State} (n : Nat) (h : step s = .next t) :
    core.run (n + 1) s = core.run n t := by
  have h' : core.step s = .next t := h
  simp only [Host.Core.run, h']

/-- A state that the step answers again is answered by every run from it. -/
theorem core_run_of_step_self {s : State} (h : step s = .next s) (n : Nat) : core.run n s = .next s := by
  induction n with
  | zero => exact core_run_zero s
  | succ n ih => exact (core_run_succ_of_next n h).trans ih

/-! ### Waiting for the source -/

/-- While a fill waits for its source no core step is enabled (44_control.md rule R225). -/
theorem coreEnabled_eq_false_of_entReq {s : State} (h : entReq s = true) : coreEnabled s = false := by
  obtain ⟨-, -, hphase⟩ := (entReq_iff s).mp h
  refine Bool.eq_false_iff.mpr fun he => ?_
  obtain ⟨-, -, hidle⟩ := (coreEnabled_iff s).mp he
  exact hphase hidle

/-- A turn of the core in which no core step is enabled changes nothing (log 3). -/
theorem coreTurn_of_not_enabled {s : State} (h : coreEnabled s = false) : coreTurn s = .next s := by
  simp [coreTurn, h]

/-- The step answers a stuck state again (log 2). -/
theorem step_of_isStuck {s : State} (h : isStuck s) : step s = .next s := by
  obtain ⟨hmoves, hreq⟩ := h
  rw [step_nil hmoves]
  exact coreTurn_of_not_enabled (coreEnabled_eq_false_of_entReq hreq)

/-- Settles O9: the step answers a stuck state again, so by induction on the number of steps every run does. -/
theorem stuckStaysStuck : Obligations.StuckStaysStuck := by
  unfold Obligations.StuckStaysStuck
  intro s n h
  exact core_run_of_step_self (step_of_isStuck h) n

end Sys2Proof.Machine
end

section
/-! What each command can answer, one inversion per group of commands, and the frame of exec against the table of 10_state.md rule R41. -/

namespace Sys2Proof.Machine

/-! ### The commands of the ChaCha unit -/

/-- CC_LOAD always completes: the counter it starts from is 0, so its Regenerate gives a block (40_chacha.md rule R110). -/
theorem execCcLoad_next {rnd : Rounds} {s t : State} (h : execCcLoad rnd s = .next t) :
    ∃ v, regenerate (chachaLoaded s.seqSnap rnd s.cc) = some v ∧
      t = (s.setCc { v with cur := 0#7, seeded := true }).complete := by
  unfold execCcLoad at h
  split at h
  · next hnone => simp [regenerate_eq_none_iff] at hnone
  · next v hv =>
    cases h
    exact ⟨v, hv, rfl⟩

/-- CC_NEXT32 and CC_NEXT64 fault with the unit as it was, or take 4 or 8 bytes at the cursor of a buffer renewed where they
would pass its end (40_chacha.md rules R112, R113). -/
theorem exec_ccNext_next {i : Instr} {s t : State} (hi : i = .ccNext32 ∨ i = .ccNext64) (h : exec i s = .next t) :
    (∃ c, t = s.raiseFault c 0#32) ∨
    (∃ n v w, n ≤ 8 ∧ renewIf (passesEnd s.cc n) s.cc = some v ∧
      t = ((s.setCc { v with cur := v.cur + BitVec.ofNat 7 n }).setOut w).complete) := by
  obtain rfl | rfl := hi <;>
  · simp only [exec_ccNext32, exec_ccNext64, execCcNext32, execCcNext64] at h
    split at h
    · split at h <;> cases h
      · exact .inl ⟨_, rfl⟩
      · next v hv => exact .inr ⟨_, v, _, by decide, hv, rfl⟩
    · cases h
      exact .inl ⟨_, rfl⟩

/-- CC_FILL faults with the unit as its byte loop left it, or as it was, or completes with LEN bytes (40_chacha.md rule R114). -/
theorem execCcFill_next {len : BitVec 8} {s t : State} (h : execCcFill len s = .next t) :
    (∃ c n, t = s.raiseFault c n) ∨
    (∃ c n, t = (s.setCc (fillLoop len.toNat s.cc).1).raiseFault c n) ∨
    (∃ bytes, bytes.length = len.toNat ∧ t = ((s.setCc (fillLoop len.toNat s.cc).1).setOutbuf bytes).complete) := by
  unfold execCcFill at h
  split at h
  · split at h
    · split at h <;> cases h
      · next u hu => exact .inr (.inl ⟨_, _, by rw [hu]⟩)
      · next u bytes hu => exact .inr (.inr ⟨bytes, fillLoop_length hu, by rw [hu]⟩)
    · cases h
      exact .inl ⟨_, _, rfl⟩
  · cases h
    exact .inl ⟨_, _, rfl⟩

/-! ### The commands of the other generators -/

/-- XO_LOAD faults on eight zero words, and otherwise loads a state that is not all zero (41_xoshiro.md rule R145). -/
theorem execXoLoad_next {s t : State} (h : execXoLoad s = .next t) :
    (∃ c n, t = s.raiseFault c n) ∨
    (∃ u : Xoshiro, ¬(u.s0 = 0#64 ∧ u.s1 = 0#64 ∧ u.s2 = 0#64 ∧ u.s3 = 0#64) ∧ t = (s.setXo u).complete) := by
  simp only [execXoLoad] at h
  split at h <;> cases h
  · exact .inl ⟨_, _, rfl⟩
  · next hne => exact .inr ⟨_, hne, rfl⟩

/-- XO_NEXT32 and XO_NEXT64 fault or make the transition (41_xoshiro.md rules R147, R148). -/
theorem exec_xoNext_next {i : Instr} {s t : State} (hi : i = .xoNext32 ∨ i = .xoNext64) (h : exec i s = .next t) :
    (∃ c n, t = s.raiseFault c n) ∨ (∃ v, t = ((s.setXo (xoTransition s.xo)).setOut v).complete) := by
  obtain rfl | rfl := hi <;>
  · simp only [exec_xoNext32, exec_xoNext64, execXoNext32, execXoNext64] at h
    split at h <;> cases h
    · exact .inr ⟨_, rfl⟩
    · exact .inl ⟨_, _, rfl⟩

/-- PCG_NEXT32 and PCG_NEXT64 fault or make the step (42_pcg.md rules R166, R167). -/
theorem exec_pcgNext_next {i : Instr} {s t : State} (hi : i = .pcgNext32 ∨ i = .pcgNext64) (h : exec i s = .next t) :
    (∃ c n, t = s.raiseFault c n) ∨ (∃ v, t = ((s.setPcg (pcgStep s.pcg)).setOut v).complete) := by
  obtain rfl | rfl := hi <;>
  · simp only [exec_pcgNext32, exec_pcgNext64, execPcgNext32, execPcgNext64] at h
    split at h <;> cases h
    · exact .inr ⟨_, rfl⟩
    · exact .inl ⟨_, _, rfl⟩

/-- PCG_LOAD completes with the increment made of the stream value (42_pcg.md rule R165). -/
theorem execPcgLoad_next {s t : State} (h : execPcgLoad s = .next t) :
    ∃ u : Pcg, u.inc = (pcgStreamOperand s.seqSnap <<< 1) ||| 1#128 ∧ t = (s.setPcg u).complete := by
  unfold execPcgLoad at h
  cases h
  exact ⟨_, rfl, rfl⟩

/-- SM_NEXT64 faults or replaces its own state (41_xoshiro.md rule R151). -/
theorem execSmNext64_next {s t : State} (h : execSmNext64 s = .next t) :
    (∃ c n, t = s.raiseFault c n) ∨ (∃ u v, t = ((s.setSm u).setOut v).complete) := by
  unfold execSmNext64 at h
  split at h <;> cases h
  · exact .inr ⟨_, _, rfl⟩
  · exact .inl ⟨_, _, rfl⟩

/-! ### ENT_FILL -/

@[simp] theorem State.setEnt_setEnt (s : State) (e f : Ent) : (s.setEnt e).setEnt f = s.setEnt f := rfl

/-- `t` is `s` after a step of a fill that ends it: another state of the entropy unit, and a fault, or the completion with at
most LEN bytes (43_entropy.md rules R183, R187). -/
def EndsFill (len : BitVec 8) (s t : State) : Prop :=
  ∃ e, (∃ c n, t = (s.setEnt e).raiseFault c n) ∨
    (∃ data, data.length ≤ len.toNat ∧ t = ((s.setEnt e).setOutbuf data).complete)

theorem endsFill_raiseFault (len : BitVec 8) (s : State) (c : Cause) (n : Word) :
    EndsFill len s (s.raiseFault c n) := ⟨s.ent, .inl ⟨c, n, rfl⟩⟩

theorem endsFill_of_setEnt {len : BitVec 8} {s t : State} {e : Ent} (h : EndsFill len (s.setEnt e) t) :
    EndsFill len s t := by
  simpa only [EndsFill, State.setEnt_setEnt] using h

/-- The last step of a fill ends it. -/
theorem endsFill_fillFinish (len : BitVec 8) (s : State) : EndsFill len s (fillFinish len s) := by
  obtain ⟨j, -, h⟩ | ⟨r, a, c, k, -, h⟩ | ⟨r, a, -, h⟩ := fillFinish_cases len s
  · exact h ▸ endsFill_raiseFault ..
  · exact ⟨_, .inl ⟨c, _, h⟩⟩
  · exact ⟨_, .inr ⟨_, List.length_take_le .., h⟩⟩

/-- What follows the storing of a byte ends the fill or changes the entropy unit alone. -/
theorem fillAfterByte_ends_or_waits (len : BitVec 8) (s : State) :
    EndsFill len s (fillAfterByte len s) ∨ ∃ e, fillAfterByte len s = s.setEnt e := by
  obtain ⟨-, -, h⟩ | ⟨-, -, -, h⟩ | ⟨-, -, -, h⟩ | ⟨-, -, h⟩ | ⟨-, -, h⟩ := fillAfterByte_cases len s
  · exact .inl (h ▸ endsFill_raiseFault ..)
  · exact .inl (h ▸ endsFill_of_setEnt (endsFill_fillFinish ..))
  · exact .inr ⟨_, h⟩
  · exact .inl (h ▸ endsFill_fillFinish ..)
  · exact .inr ⟨s.ent, h⟩

/-- A step of ENT_FILL may change the port, and ends the fill or changes the entropy unit alone (43_entropy.md rule R190). -/
theorem execEntFill_next {len : BitVec 8} {s t : State} (h : execEntFill len s = .next t) :
    ∃ p, EndsFill len (s.setPort p) t ∨ ∃ e, t = (s.setPort p).setEnt e := by
  unfold execEntFill at h
  split at h
  · split at h <;> cases h
    · exact ⟨s.port, .inr ⟨_, rfl⟩⟩
    · exact ⟨s.port, .inr ⟨s.ent, rfl⟩⟩
    · exact ⟨none, .inl (endsFill_raiseFault ..)⟩
    · next b _ _ =>
      refine ⟨none, (fillAfterByte_ends_or_waits len _).imp endsFill_of_setEnt ?_⟩
      exact fun ⟨e, he⟩ => ⟨e, he⟩
  · cases h
    exact ⟨s.port, .inl (endsFill_raiseFault ..)⟩

/-! ### The frame of every command -/

/-- Settles O28, command by command: what each answers is the state with the updates of its row, and a fault or the completion. -/
theorem commandsWriteTheirRowOnly : Obligations.CommandsWriteTheirRowOnly := by
  unfold Obligations.CommandsWriteTheirRowOnly
  intro i s t h
  cases i with
  | nop =>
    cases h
    simp [writesOf]
  | ccLoad rnd =>
    obtain ⟨v, -, rfl⟩ := execCcLoad_next h
    simp [writesOf]
  | ccNext32 => obtain ⟨c, rfl⟩ | ⟨n, v, w, -, -, rfl⟩ := exec_ccNext_next (.inl rfl) h <;> simp [writesOf]
  | ccNext64 => obtain ⟨c, rfl⟩ | ⟨n, v, w, -, -, rfl⟩ := exec_ccNext_next (.inr rfl) h <;> simp [writesOf]
  | ccFill len =>
    obtain ⟨c, n, rfl⟩ | ⟨c, n, rfl⟩ | ⟨bytes, -, rfl⟩ := execCcFill_next h <;> simp [writesOf]
  | xoLoad => obtain ⟨c, n, rfl⟩ | ⟨u, -, rfl⟩ := execXoLoad_next h <;> simp [writesOf]
  | xoSeed64 =>
    cases h
    simp [writesOf]
  | xoNext32 => obtain ⟨c, n, rfl⟩ | ⟨v, rfl⟩ := exec_xoNext_next (.inl rfl) h <;> simp [writesOf]
  | xoNext64 => obtain ⟨c, n, rfl⟩ | ⟨v, rfl⟩ := exec_xoNext_next (.inr rfl) h <;> simp [writesOf]
  | pcgLoad =>
    obtain ⟨u, -, rfl⟩ := execPcgLoad_next h
    simp [writesOf]
  | pcgNext32 => obtain ⟨c, n, rfl⟩ | ⟨v, rfl⟩ := exec_pcgNext_next (.inl rfl) h <;> simp [writesOf]
  | pcgNext64 => obtain ⟨c, n, rfl⟩ | ⟨v, rfl⟩ := exec_pcgNext_next (.inr rfl) h <;> simp [writesOf]
  | smLoad =>
    cases h
    simp [writesOf]
  | smNext64 => obtain ⟨c, n, rfl⟩ | ⟨u, v, rfl⟩ := execSmNext64_next h <;> simp [writesOf]
  | entFill len =>
    obtain ⟨p, ⟨e, ⟨c, n, rfl⟩ | ⟨data, -, rfl⟩⟩ | ⟨e, rfl⟩⟩ := execEntFill_next h <;> simp [writesOf]

theorem exec_keeps_cc {i : Instr} {s t : State} (h : exec i s = .next t) (hi : .cc ∉ writesOf i) : t.cc = s.cc := by
  obtain ⟨hcc, -⟩ := commandsWriteTheirRowOnly i s t h
  exact hcc hi

theorem exec_keeps_xo {i : Instr} {s t : State} (h : exec i s = .next t) (hi : .xo ∉ writesOf i) : t.xo = s.xo := by
  obtain ⟨-, hxo, -⟩ := commandsWriteTheirRowOnly i s t h
  exact hxo hi

theorem exec_keeps_pcg {i : Instr} {s t : State} (h : exec i s = .next t) (hi : .pcg ∉ writesOf i) : t.pcg = s.pcg := by
  obtain ⟨-, -, hpcg, -⟩ := commandsWriteTheirRowOnly i s t h
  exact hpcg hi

/-! ### Every step and the generators -/

/-- `t` has the three loaded generators of `s`: the units whose invariants the spec states (10_state.md rules R35, R36, R37). -/
def SameGenerators (s t : State) : Prop := t.cc = s.cc ∧ t.xo = s.xo ∧ t.pcg = s.pcg

theorem sameGenerators_of_with_moves {s u : State} (h : u = { s with moves := u.moves }) : SameGenerators s u := by
  rw [h]
  exact ⟨rfl, rfl, rfl⟩

/-- A host's access reaches no generator. -/
theorem sameGenerators_admitted (s : State) (off : Nat) (k : AccessKind) : SameGenerators s (admitted s off k) := by
  cases k with
  | read => exact ⟨rfl, rfl, rfl⟩
  | write v =>
    obtain ⟨hcc, hxo, hpcg, -⟩ := writeReg_keeps s (regAt off) v
    exact ⟨hcc, hxo, hpcg⟩

/-- The core's step on a word leaves the generators as they are, where the word is illegal, or is a command's. -/
theorem runCommand_generators_cases {s t : State} (h : runCommand s = .next t) :
    SameGenerators s t ∨ ∃ i, exec i s = .next t := by
  cases hd : decode s.seqCmd with
  | ok i => exact .inr ⟨i, runCommand_of_ok hd ▸ h⟩
  | error e =>
    cases (runCommand_of_error hd).symm.trans h
    exact .inl ⟨rfl, rfl, rfl⟩

/-- A step leaves the generators as they are, resets them, or makes the step of a command on them. -/
theorem step_generators_cases {s t : State} (h : step s = .next t) :
    SameGenerators s t ∨ SameGenerators State.reset t ∨ ∃ u i, SameGenerators s u ∧ exec i u = .next t := by
  obtain ⟨u, hu, hmove⟩ := step_next_cases h
  obtain ⟨hcc, hxo, hpcg⟩ := sameGenerators_of_with_moves hu
  simp only [SameGenerators, ← hcc, ← hxo, ← hpcg]
  obtain ⟨-, rfl⟩ | ⟨-, hrun⟩ | ⟨a, off, -, -, -, -, -, rfl⟩ | ⟨ans, -, -, hrun⟩ | ⟨b, -, rfl⟩ := hmove
  · exact .inl ⟨rfl, rfl, rfl⟩
  · exact (runCommand_generators_cases hrun).imp id fun ⟨i, hi⟩ => .inr ⟨u, i, ⟨rfl, rfl, rfl⟩, hi⟩
  · exact .inl (sameGenerators_admitted u off a.kind)
  · exact (runCommand_generators_cases hrun).imp id fun ⟨i, hi⟩ =>
      .inr ⟨u.setPort (some ans), i, ⟨rfl, rfl, rfl⟩, hi⟩
  · obtain ⟨-, hd⟩ | ⟨-, -, hd⟩ | ⟨-, -, hd⟩ := driveReset_cases u b <;> rw [hd]
    · exact .inl ⟨rfl, rfl, rfl⟩
    · exact .inr (.inl ⟨rfl, rfl, rfl⟩)
    · exact .inl ⟨rfl, rfl, rfl⟩

end Sys2Proof.Machine
end

section
/-! The ChaCha unit's invariant (10_state.md rule R35, 40_chacha.md rule R107): the counter's increment as a 64-bit sum, and every step. -/

namespace Sys2Proof.Machine

/-! ### The words and their counter -/

@[simp] theorem blockCounter_withCounter (w : Vector Word 16) (c : DWord) : blockCounter (withCounter w c) = c := by
  simp [blockCounter, withCounter]

@[simp] theorem withCounter_withCounter (w : Vector Word 16) (c d : DWord) :
    withCounter (withCounter w c) d = withCounter w d := by
  simp [withCounter, Vector.set_comm]

@[simp] theorem withCounter_blockCounter (w : Vector Word 16) : withCounter w (blockCounter w) = w := by
  simp [withCounter, blockCounter]

theorem getElem_withCounter_of_ne (w : Vector Word 16) (c : DWord) {n : Nat} (hn : n < 16) (h12 : n ≠ 12) (h13 : n ≠ 13) :
    (withCounter w c)[n] = w[n] := by
  simp [withCounter, h12.symm, h13.symm]

theorem le64_toNat (lo hi : Word) : (le64 lo hi).toNat = hi.toNat * 2 ^ 32 + lo.toNat := by
  rw [le64, BitVec.toNat_append, ← Nat.shiftLeft_add_eq_or_of_lt lo.isLt, Nat.shiftLeft_eq]

/-- The two halves of the counter after the carry are the 64-bit counter plus 1 (40_chacha.md rule R106). -/
theorem le64_add_one (lo hi : Word) :
    le64 lo hi + 1#64 = if lo + 1#32 = 0#32 then le64 (lo + 1#32) (hi + 1#32) else le64 (lo + 1#32) hi := by
  apply BitVec.eq_of_toNat_eq
  split <;> rename_i h <;> simp only [BitVec.toNat_eq] at h <;> simp [le64_toNat] at h ⊢ <;> omega

/-- Regenerate writes the counter plus 1 and no other word (40_chacha.md rule R106). -/
theorem bumpCounter_eq_withCounter (w : Vector Word 16) : bumpCounter w = withCounter w (blockCounter w + 1#64) := by
  unfold bumpCounter blockCounter withCounter
  rw [le64_add_one]
  split
  · next h => simp [h]
  · next h =>
    rw [lo32_le64, hi32_le64, if_neg h, Vector.set_comm _ _ (by decide : 12 ≠ 13)]
    simp

/-! ### The unit's invariant -/

/-- The four constants stand in the state words (40_chacha.md rule R101). -/
def HasConstants (w : Vector Word 16) : Prop :=
  w[0] = 0x61707865#32 ∧ w[1] = 0x3320646e#32 ∧ w[2] = 0x79622d32#32 ∧ w[3] = 0x6b206574#32

/-- The buffer holds the block of the counter before, and the counter is not 0 (40_chacha.md rule R107). -/
def HoldsBlock (u : Chacha) : Prop :=
  HasConstants u.words ∧ blockCounter u.words ≠ 0#64 ∧
    u.buf = chachaBlock (withCounter u.words (blockCounter u.words - 1#64)) u.rnd

/-- What ChachaInv says of a unit. -/
def Chacha.Valid (u : Chacha) : Prop := u.cur.toNat ≤ 64 ∧ (u.seeded = true → HoldsBlock u)

theorem chachaInv_iff (s : State) : ChachaInv s ↔ s.cc.Valid := by
  simp only [ChachaInv, Chacha.Valid, HoldsBlock, HasConstants, and_assoc]

theorem hasConstants_withCounter {w : Vector Word 16} (h : HasConstants w) (c : DWord) :
    HasConstants (withCounter w c) := by
  simpa [HasConstants, getElem_withCounter_of_ne] using h

theorem hasConstants_chachaLoaded (snap : Vector Word 10) (rnd : Rounds) (u : Chacha) :
    HasConstants (chachaLoaded snap rnd u).words := ⟨rfl, rfl, rfl, rfl⟩

/-- Every Regenerate that does not fault leaves the block of the counter before. -/
theorem holdsBlock_of_regenerate {u v : Chacha} (h : regenerate u = some v) (hc : HasConstants u.words) : HoldsBlock v := by
  obtain ⟨hmax, hbuf, hwords, -, hrnd, -⟩ := regenerate_some h
  rw [bumpCounter_eq_withCounter] at hwords
  refine ⟨hwords ▸ hasConstants_withCounter hc _, ?_, ?_⟩
  · rw [hwords, blockCounter_withCounter]
    intro h0
    exact hmax (by simpa using (BitVec.eq_sub_iff_add_eq.mpr h0))
  · simp [hbuf, hwords, hrnd]

/-- Taking `n` bytes that are left in the buffer keeps the invariant. -/
theorem Chacha.Valid.advance {u : Chacha} (h : u.Valid) {n : Nat} (hn : u.cur.toNat + n ≤ 64) :
    Chacha.Valid { u with cur := u.cur + BitVec.ofNat 7 n } := by
  obtain ⟨-, hold⟩ := h
  refine ⟨?_, hold⟩
  simp only [BitVec.toNat_add, BitVec.toNat_ofNat]
  omega

/-- A renewal keeps the invariant. -/
theorem valid_of_renewIf {c : Bool} {u v : Chacha} (h : renewIf c u = some v) (hu : u.Valid) : v.Valid := by
  obtain ⟨-, hr⟩ | ⟨-, -, hr⟩ | ⟨-, w, hw, hr⟩ := renewIf_cases c u <;> cases hr.symm.trans h
  · exact hu
  · refine ⟨Nat.zero_le _, fun hs => ?_⟩
    obtain ⟨-, -, -, -, -, hseeded⟩ := regenerate_some hw
    obtain ⟨hconst, -⟩ := hu.2 (hseeded.symm.trans hs)
    have hblock : HoldsBlock w := holdsBlock_of_regenerate hw hconst
    exact hblock

/-- A renewal that looks at whether `n` bytes pass the end leaves room for `n` bytes. -/
theorem cur_add_le_of_renewIf_passesEnd {n : Nat} {u v : Chacha} (hn : n ≤ 64) (h : renewIf (passesEnd u n) u = some v) :
    v.cur.toNat + n ≤ 64 := by
  obtain ⟨hc, hr⟩ | ⟨-, -, hr⟩ | ⟨-, w, -, hr⟩ := renewIf_cases (passesEnd u n) u <;> cases hr.symm.trans h
  · simpa [passesEnd] using hc
  · simpa using hn

/-- With the cursor in its bound, the byte loop's test for an empty buffer is the test whether one byte would pass its end. -/
theorem decide_cur_eq_passesEnd_one {u : Chacha} (h : u.cur.toNat ≤ 64) : decide (u.cur = 64#7) = passesEnd u 1 := by
  simp only [passesEnd, BitVec.toNat_eq, BitVec.toNat_ofNat, decide_eq_decide]
  omega

/-- The byte loop of CC_FILL keeps the invariant, whether it ends in exhaustion or not. -/
theorem valid_fillLoop (n : Nat) {u : Chacha} (hu : u.Valid) : (fillLoop n u).1.Valid := by
  induction n generalizing u with
  | zero => exact hu
  | succ n ih =>
    cases h : renewIf (decide (u.cur = 64#7)) u with
    | none => rw [fillLoop_succ_of_none h]; exact hu
    | some v =>
      rw [fillLoop_succ_of_some h]
      have hv : v.Valid := valid_of_renewIf h hu
      rw [decide_cur_eq_passesEnd_one hu.1] at h
      exact ih (hv.advance (cur_add_le_of_renewIf_passesEnd (by decide) h))

/-! ### Every command and every step -/

theorem chacha_valid_reset : State.reset.cc.Valid := ⟨by decide, fun h => nomatch h⟩

/-- Every command keeps the ChaCha unit's invariant. -/
theorem exec_keeps_chacha_valid {i : Instr} {s t : State} (hs : s.cc.Valid) (h : exec i s = .next t) : t.cc.Valid := by
  have hnext : i = .ccNext32 ∨ i = .ccNext64 → t.cc.Valid := by
    intro hi
    obtain ⟨c, rfl⟩ | ⟨n, v, w, hn, hr, rfl⟩ := exec_ccNext_next hi h
    · exact hs
    · exact (valid_of_renewIf hr hs).advance (cur_add_le_of_renewIf_passesEnd (by omega) hr)
  cases i with
  | ccLoad rnd =>
    obtain ⟨v, hv, rfl⟩ := execCcLoad_next h
    have hblock : HoldsBlock v := holdsBlock_of_regenerate hv (hasConstants_chachaLoaded ..)
    exact ⟨Nat.zero_le _, fun _ => hblock⟩
  | ccNext32 => exact hnext (.inl rfl)
  | ccNext64 => exact hnext (.inr rfl)
  | ccFill len =>
    obtain ⟨c, n, rfl⟩ | ⟨c, n, rfl⟩ | ⟨bytes, -, rfl⟩ := execCcFill_next h
    · exact hs
    · exact valid_fillLoop _ hs
    · exact valid_fillLoop _ hs
  | _ => exact exec_keeps_cc h (by simp [writesOf]) ▸ hs

/-- Settles O25: only a command changes the unit, and its Regenerates put the block of the counter before into the buffer. -/
theorem stepKeepsKeystreamInvariant : Obligations.StepKeepsKeystreamInvariant := by
  unfold Obligations.StepKeepsKeystreamInvariant
  intro s t hs h
  rw [chachaInv_iff] at hs ⊢
  obtain ⟨hcc, -⟩ | ⟨hcc, -⟩ | ⟨u, i, ⟨hcc, -⟩, hexec⟩ := step_generators_cases h
  · exact hcc ▸ hs
  · exact hcc ▸ chacha_valid_reset
  · exact exec_keeps_chacha_valid (hcc ▸ hs) hexec

end Sys2Proof.Machine
end

section
/-! The seeded generators stay valid (10_state.md rules R36, R37, 41_xoshiro.md rule R144): SplitMix64's mixing and the xoshiro transition
are injective, and every step keeps the two invariants. -/

namespace Sys2Proof.Machine

/-! ### Injectivity of the words' operations (the spec's general knowledge G5, log 14) -/

/-- A word is 0 when shifting it right by at least 16 leaves it as it is: four shifts push every bit out. -/
theorem eq_zero_of_eq_ushiftRight {d : DWord} {k : Nat} (hk : 16 ≤ k) (h : d = d >>> k) : d = 0#64 := by
  calc d = d >>> k >>> k >>> k >>> k := by rw [← h, ← h, ← h, ← h]
    _ = d >>> (k + k + k + k) := by simp only [BitVec.shiftRight_add]
    _ = 0#64 := BitVec.ushiftRight_eq_zero (by omega)

/-- A word is 0 when shifting it left by at least 16 leaves it as it is. -/
theorem eq_zero_of_eq_shiftLeft {d : DWord} {k : Nat} (hk : 16 ≤ k) (h : d = d <<< k) : d = 0#64 := by
  calc d = d <<< k <<< k <<< k <<< k := by rw [← h, ← h, ← h, ← h]
    _ = d <<< (k + k + k + k) := by simp only [BitVec.shiftLeft_add]
    _ = 0#64 := BitVec.shiftLeft_eq_zero (by omega)

theorem xor_eq_xor_comm {a b c d : DWord} (h : a ^^^ b = c ^^^ d) : a ^^^ c = b ^^^ d := by
  rw [← BitVec.xor_eq_zero_iff] at h ⊢
  rw [← h]
  ac_rfl

theorem xor_ushiftRight_injective {k : Nat} (hk : 16 ≤ k) : Function.Injective fun x : DWord => x ^^^ (x >>> k) := by
  intro x y h
  refine BitVec.xor_eq_zero_iff.mp (eq_zero_of_eq_ushiftRight hk ?_)
  rw [BitVec.ushiftRight_xor_distrib]
  exact xor_eq_xor_comm h

theorem xor_shiftLeft_injective {k : Nat} (hk : 16 ≤ k) : Function.Injective fun x : DWord => x ^^^ (x <<< k) := by
  intro x y h
  refine BitVec.xor_eq_zero_iff.mp (eq_zero_of_eq_shiftLeft hk ?_)
  rw [BitVec.shiftLeft_xor_distrib]
  exact xor_eq_xor_comm h

/-- Multiplying by a word that has an inverse is injective. -/
theorem mul_injective_of_inverse {c d : DWord} (h : d * c = 1#64) : Function.Injective fun x : DWord => c * x := by
  intro x y hxy
  calc x = d * (c * x) := by rw [← BitVec.mul_assoc, h, BitVec.one_mul]
    _ = d * (c * y) := congrArg (d * ·) hxy
    _ = y := by rw [← BitVec.mul_assoc, h, BitVec.one_mul]

/-- SplitMix64's output function is made of injective steps (41_xoshiro.md rule R143). -/
theorem smMix_injective : Function.Injective smMix := by
  have hmul1 := mul_injective_of_inverse (c := Config.smMul1) (d := 0x96DE1B173F119089#64) (by decide)
  have hmul2 := mul_injective_of_inverse (c := Config.smMul2) (d := 0x319642B2D24D8EC3#64) (by decide)
  intro x y h
  exact xor_ushiftRight_injective (by decide) (hmul1 (xor_ushiftRight_injective (by decide) (hmul2
    (xor_ushiftRight_injective (by decide) h))))

theorem rotl64_eq_rotateLeft (a : DWord) {k : Nat} (hk : k < 64) : rotl64 a k = a.rotateLeft k := by
  unfold rotl64
  rw [BitVec.rotateLeft_def, Nat.mod_eq_of_lt hk]
  split
  · next h => simp [h, BitVec.ushiftRight_eq_zero]
  · rfl

theorem rotateLeft_rotateRight (a : DWord) {k : Nat} (hk : k < 64) : (a.rotateLeft k).rotateRight k = a := by
  apply BitVec.eq_of_getLsbD_eq
  intro i hi
  rw [BitVec.getLsbD_rotateRight, BitVec.getLsbD_rotateLeft, BitVec.getLsbD_rotateLeft, Nat.mod_eq_of_lt hk]
  by_cases hlow : i < 64 - k
  · simp [hlow, hi, show k + i < 64 by omega]
  · simp [hlow, hi, show i - (64 - k) < k by omega, show 64 - k + (i - (64 - k)) = i by omega]

theorem rotl64_injective {k : Nat} (hk : k < 64) : Function.Injective fun a : DWord => rotl64 a k := by
  intro a b h
  simp only [rotl64_eq_rotateLeft _ hk] at h
  rw [← rotateLeft_rotateRight a hk, h, rotateLeft_rotateRight b hk]

/-- The xoshiro transition is undone one statement at a time (41_xoshiro.md rule R141). -/
theorem xoTransition_injective : Function.Injective xoTransition := by
  rintro ⟨a0, a1, a2, a3, a⟩ ⟨b0, b1, b2, b3, b⟩ h
  simp only [xoTransition, Xoshiro.mk.injEq] at h
  obtain ⟨h0, h1, h2, h3, rfl⟩ := h
  have h31 : a3 ^^^ a1 = b3 ^^^ b1 := rotl64_injective (by decide) h3
  obtain rfl : a0 = b0 := by simpa [h31] using h0
  obtain rfl : a1 = b1 := xor_shiftLeft_injective (k := 17) (by decide)
    (xor_eq_xor_comm ((xor_eq_xor_comm h1).trans (xor_eq_xor_comm h2)))
  obtain rfl : a2 = b2 := by simpa using h1
  obtain rfl : a3 = b3 := by simpa using h31
  rfl

/-! ### The xoshiro unit -/

/-- The four state words are not all zero (41_xoshiro.md rule R144). -/
def Xoshiro.NonZero (u : Xoshiro) : Prop := ¬(u.s0 = 0#64 ∧ u.s1 = 0#64 ∧ u.s2 = 0#64 ∧ u.s3 = 0#64)

theorem xoInv_iff (s : State) : XoInv s ↔ (s.xo.seeded = true → s.xo.NonZero) := Iff.rfl

/-- The state in which all four words are 0. -/
def Xoshiro.zero (seeded : Bool) : Xoshiro := { s0 := 0#64, s1 := 0#64, s2 := 0#64, s3 := 0#64, seeded := seeded }

theorem xoTransition_zero (b : Bool) : xoTransition (Xoshiro.zero b) = Xoshiro.zero b := by
  simp [Xoshiro.zero, xoTransition, rotl64]

/-- The zero state is the transition of itself alone. -/
theorem nonZero_xoTransition {u : Xoshiro} (h : u.NonZero) : (xoTransition u).NonZero := by
  rintro ⟨h0, h1, h2, h3⟩
  have hzero : xoTransition u = xoTransition (Xoshiro.zero u.seeded) :=
    calc xoTransition u = Xoshiro.zero u.seeded := (Xoshiro.mk.injEq ..).mpr ⟨h0, h1, h2, h3, rfl⟩
      _ = xoTransition (Xoshiro.zero u.seeded) := (xoTransition_zero _).symm
  rw [xoTransition_injective hzero] at h
  exact h ⟨rfl, rfl, rfl, rfl⟩

/-- The SplitMix64 outputs of two states in a row are not both 0, as the states differ (41_xoshiro.md rule R146). -/
theorem not_smMix_zero_and_smMix_smAdvance_zero (st : DWord) : ¬(smMix st = 0#64 ∧ smMix (smAdvance st) = 0#64) := by
  rintro ⟨h0, h1⟩
  have hst : st = smAdvance st := smMix_injective (h0.trans h1.symm)
  simp [smAdvance, Config.smGamma] at hst

/-- Every command keeps a seeded xoshiro state from being all zero. -/
theorem exec_keeps_xoInv {i : Instr} {s t : State} (hs : XoInv s) (h : exec i s = .next t) : XoInv t := by
  have hnext : i = .xoNext32 ∨ i = .xoNext64 → XoInv t := by
    intro hi
    obtain ⟨c, n, rfl⟩ | ⟨v, rfl⟩ := exec_xoNext_next hi h
    · exact hs
    · exact fun hseeded => nonZero_xoTransition (hs (by simpa using hseeded))
  cases i with
  | xoLoad =>
    obtain ⟨c, n, rfl⟩ | ⟨u, hu, rfl⟩ := execXoLoad_next h
    · exact hs
    · exact fun _ => hu
  | xoSeed64 =>
    cases h
    exact fun _ ⟨h0, h1, _⟩ => not_smMix_zero_and_smMix_smAdvance_zero _ ⟨h0, h1⟩
  | xoNext32 => exact hnext (.inl rfl)
  | xoNext64 => exact hnext (.inr rfl)
  | _ =>
    have hxo := exec_keeps_xo h (by simp [writesOf])
    simpa only [XoInv, hxo] using hs

/-! ### The PCG unit -/

/-- Every command keeps a seeded PCG's increment odd. -/
theorem exec_keeps_pcgInv {i : Instr} {s t : State} (hs : PcgInv s) (h : exec i s = .next t) : PcgInv t := by
  have hnext : i = .pcgNext32 ∨ i = .pcgNext64 → PcgInv t := by
    intro hi
    obtain ⟨c, n, rfl⟩ | ⟨v, rfl⟩ := exec_pcgNext_next hi h
    · exact hs
    · simpa [PcgInv] using hs
  cases i with
  | pcgLoad =>
    obtain ⟨u, hu, rfl⟩ := execPcgLoad_next h
    simp [PcgInv, hu]
  | pcgNext32 => exact hnext (.inl rfl)
  | pcgNext64 => exact hnext (.inr rfl)
  | _ =>
    have hpcg := exec_keeps_pcg h (by simp [writesOf])
    simpa only [PcgInv, hpcg] using hs

/-! ### Every step -/

/-- Settles O26: no transition reaches the zero state but from itself, and no command but PCG_LOAD writes the increment. -/
theorem stepKeepsGeneratorsValid : Obligations.StepKeepsGeneratorsValid := by
  unfold Obligations.StepKeepsGeneratorsValid
  constructor
  · intro s t hs h
    obtain ⟨-, hxo, -⟩ | ⟨-, hxo, -⟩ | ⟨u, i, ⟨-, hxo, -⟩, hexec⟩ := step_generators_cases h
    · simpa only [XoInv, hxo] using hs
    · simp [XoInv, hxo, State.reset]
    · exact exec_keeps_xoInv (by simpa only [XoInv, hxo] using hs) hexec
  · intro s t hs h
    obtain ⟨-, -, hpcg⟩ | ⟨-, -, hpcg⟩ | ⟨u, i, ⟨-, -, hpcg⟩, hexec⟩ := step_generators_cases h
    · simpa only [PcgInv, hpcg] using hs
    · simp [PcgInv, hpcg, State.reset]
    · exact exec_keeps_pcgInv (by simpa only [PcgInv, hpcg] using hs) hexec

end Sys2Proof.Machine
end

section
/-! The register window as read (10_state.md rules R20 to R34, 20_memory.md rule R61): the map, the fields, and the byte order. -/

namespace Sys2Proof.Machine

/-! ### The map -/

/-- The offset of a register in the table of 10_state.md rule R20. `reserved` is the class of every other offset and has none. -/
def Reg.offset : Reg → Option Nat
  | .id => some 0x000
  | .version => some 0x004
  | .status => some 0x008
  | .cmd => some 0x00C
  | .faultCause => some 0x010
  | .faultCmd => some 0x014
  | .faultInfo => some 0x018
  | .seed i => some (0x040 + 4 * i.val)
  | .outLo => some 0x080
  | .outHi => some 0x084
  | .outbuf j => some (0x0C0 + 4 * j.val)
  | .ccCtrLo => some 0x100
  | .ccCtrHi => some 0x104
  | .ccCursor => some 0x108
  | .entRct => some 0x140
  | .entApt => some 0x144
  | .reserved => none

theorem regAt_seed (i : Fin 10) : regAt (0x040 + 4 * i.val) = .seed i := by
  unfold regAt
  rw [dif_pos (by omega)]
  congr 1
  ext
  simp

theorem regAt_outbuf (j : Fin 16) : regAt (0x0C0 + 4 * j.val) = .outbuf j := by
  unfold regAt
  rw [dif_neg (by omega), dif_pos (by omega)]
  congr 1
  ext
  simp

theorem offset_of_regAtFixed {off : Nat} {r : Reg} (h : regAtFixed off = r) :
    r = .reserved ∨ r.offset = some off := by
  unfold regAtFixed at h
  split at h <;> subst h
  case h_15 => exact .inl rfl
  all_goals exact .inr rfl

/-- A multiple of 4 at which a register of the table stands is that register's offset. -/
theorem offset_of_regAt {off : Nat} {r : Reg} (h : regAt off = r) (h4 : off % 4 = 0) :
    r = .reserved ∨ r.offset = some off := by
  unfold regAt at h
  split at h
  · subst h
    exact .inr (congrArg some (by dsimp only; omega))
  · split at h
    · subst h
      exact .inr (congrArg some (by dsimp only; omega))
    · exact offset_of_regAtFixed h

/-- Settles O12, with `regAt_seed` and `regAt_outbuf` for the two arrays and `offset_of_regAt` for the offsets not in the table. -/
theorem registerMapReads : Obligations.RegisterMapReads := by
  unfold Obligations.RegisterMapReads
  intro s
  refine ⟨rfl, rfl, rfl, rfl, rfl, rfl, rfl, rfl, rfl, ?_, ?_, ?_, rfl, rfl, rfl, rfl, ?_⟩
  · exact BitVec.toNat_setWidth_of_le (by decide)
  · intro i
    rw [regAt_seed]
    rfl
  · intro j
    rw [regAt_outbuf]
    rfl
  · intro off h4 hlt hfixed hseed hbuf
    obtain hr | hr := offset_of_regAt rfl h4
    · rw [hr]
      rfl
    · exfalso
      simp only [List.mem_cons, List.not_mem_nil, or_false, not_or] at hfixed
      cases hreg : regAt off <;> simp only [hreg, Reg.offset, Option.some.injEq, reduceCtorEq] at hr <;> omega

/-! ### The fields -/

/-- The bits of STATUS (10_state.md rule R23). -/
theorem statusWord_bits (s : State) :
    (statusWord s).getLsbD 0 = s.busy ∧ (statusWord s).getLsbD 1 = s.fault ∧ (statusWord s).getLsbD 2 = s.ovr ∧
    (statusWord s).getLsbD 3 = false ∧ (statusWord s).getLsbD 4 = s.cc.seeded ∧ (statusWord s).getLsbD 5 = s.xo.seeded ∧
    (statusWord s).getLsbD 6 = s.pcg.seeded ∧ (statusWord s).getLsbD 7 = s.sm.seeded ∧
    (statusWord s).getLsbD 8 = s.ent.prevValid := by
  simp only [statusWord, BitVec.getLsbD_append]
  simp

/-- The fields of STATUS above its bits (10_state.md rule R23). -/
theorem statusWord_fields (s : State) :
    (statusWord s).extractLsb' 9 2 = codeOfRounds s.cc.rnd ∧ (statusWord s).extractLsb' 11 21 = 0#21 := by
  unfold statusWord
  constructor
  all_goals repeat rw [BitVec.extractLsb'_append_eq_of_le (by decide)]
  · exact BitVec.extractLsb'_append_eq_right
  · exact BitVec.extractLsb'_eq_self

/-- The fields of ENT_RCT (10_state.md rule R32), from bit 0 up. -/
theorem rctWord_fields (r : Rct) :
    (rctWord r).extractLsb' 0 8 = r.value ∧ (rctWord r).getLsbD 8 = r.valid ∧ (rctWord r).extractLsb' 9 7 = 0#7 ∧
    (rctWord r).extractLsb' 16 3 = r.run ∧ (rctWord r).extractLsb' 19 13 = 0#13 := by
  unfold rctWord
  refine ⟨?value, ?valid, ?zero, ?run, ?top⟩
  case valid =>
    simp only [BitVec.getLsbD_append]
    simp
  all_goals repeat rw [BitVec.extractLsb'_append_eq_of_le (by decide)]
  case top => exact BitVec.extractLsb'_eq_self
  all_goals exact BitVec.extractLsb'_append_eq_right

/-- The fields of ENT_APT (10_state.md rule R33), from bit 0 up. -/
theorem aptWord_fields (a : Apt) :
    (aptWord a).extractLsb' 0 8 = a.value ∧ (aptWord a).extractLsb' 8 4 = a.count ∧ (aptWord a).extractLsb' 12 4 = 0#4 ∧
    (aptWord a).extractLsb' 16 9 = a.n ∧ (aptWord a).extractLsb' 25 7 = 0#7 := by
  unfold aptWord
  refine ⟨?value, ?count, ?zero, ?n, ?top⟩
  all_goals repeat rw [BitVec.extractLsb'_append_eq_of_le (by decide)]
  case top => exact BitVec.extractLsb'_eq_self
  all_goals exact BitVec.extractLsb'_append_eq_right

/-- Settles O13: the four registers read the words whose fields are given above, and FAULT_CAUSE the code of its cause. -/
theorem flagAndDebugFields : Obligations.FlagAndDebugFields := by
  unfold Obligations.FlagAndDebugFields
  intro s
  obtain ⟨hbusy, hfault, hovr, hzero, hcc, hxo, hpcg, hsm, hprev⟩ := statusWord_bits s
  obtain ⟨hrnd, htop⟩ := statusWord_fields s
  obtain ⟨hrvalue, hrvalid, hrzero, hrrun, hrtop⟩ := rctWord_fields s.ent.rct
  obtain ⟨havalue, hacount, hazero, han, hatop⟩ := aptWord_fields s.ent.apt
  refine ⟨hbusy, hfault, hovr, hzero, hcc, hxo, hpcg, hsm, hprev, ?_, htop, hrvalue, hrvalid, hrzero, hrrun, hrtop,
    havalue, hacount, hazero, han, hatop, ?_⟩
  · refine (congrArg BitVec.toNat hrnd).trans ?_
    cases s.cc.rnd <;> rfl
  · change causeWord s.cause = _
    rcases s.cause with _ | c
    · rfl
    · cases c <;> rfl

/-! ### The byte order -/

/-- The bytes of a little-endian word. -/
theorem byteOf_le32 (b : Fin 4 → Byte) (k : Fin 4) : byteOf (le32 (b 0) (b 1) (b 2) (b 3)) k.val = b k := by
  unfold byteOf le32
  fin_cases k
  all_goals repeat rw [BitVec.extractLsb'_append_eq_of_le (by decide)]
  · exact BitVec.extractLsb'_append_eq_right
  · exact BitVec.extractLsb'_append_eq_right
  · exact BitVec.extractLsb'_append_eq_right
  · exact BitVec.extractLsb'_eq_self

/-- A word is its four bytes, little-endian (20_memory.md rule R61). -/
theorem append_byteOf (w : Word) : byteOf w 3 ++ byteOf w 2 ++ byteOf w 1 ++ byteOf w 0 = w := by
  unfold byteOf
  rw [BitVec.extractLsb'_append_extractLsb'_eq_extractLsb' (by decide),
    BitVec.extractLsb'_append_extractLsb'_eq_extractLsb' (by decide),
    BitVec.extractLsb'_append_extractLsb'_eq_extractLsb' (by decide)]
  exact BitVec.extractLsb'_eq_self

/-- A byte of an OUTBUF register is the byte of OUTBUF at its place (10_state.md rule R29). -/
theorem byteOf_outbufWord (b : Vector Byte 64) (x : Fin 64) :
    byteOf (outbufWord b ⟨x.val / 4, by omega⟩) (x.val % 4) = b[x] := by
  calc byteOf (outbufWord b ⟨x.val / 4, by omega⟩) (x.val % 4)
      = b[4 * (x.val / 4) + x.val % 4] :=
        byteOf_le32 (fun k : Fin 4 => b[4 * (x.val / 4) + k.val]) ⟨x.val % 4, by omega⟩
    _ = b[x] := by simp only [Nat.div_add_mod, Fin.getElem_fin]

/-- The byte at an offset is its byte of the register at the multiple of 4 below. -/
theorem windowByte_add {off k : Nat} (s : State) (h4 : off % 4 = 0) (hk : k < 4) :
    windowByte s (off + k) = byteOf (readReg s (regAt off)) k := by
  unfold windowByte
  rw [show 4 * ((off + k) / 4) = off by omega, show (off + k) % 4 = k by omega]

/-- Byte x of the window's OUTBUF range is byte x of OUTBUF (10_state.md rule R29). -/
theorem windowByte_outbuf (s : State) (x : Fin 64) : windowByte s (0x0C0 + x.val) = s.outbuf[x] := by
  have hsplit : 0x0C0 + x.val = 0x0C0 + 4 * (x.val / 4) + x.val % 4 := by omega
  rw [hsplit, windowByte_add s (by omega) (Nat.mod_lt _ (by decide)), regAt_outbuf ⟨x.val / 4, by omega⟩]
  exact byteOf_outbufWord s.outbuf x

/-- Settles O14: a byte of the window is its byte of the register below, and the four bytes put together are the register. -/
theorem windowIsLittleEndian : Obligations.WindowIsLittleEndian := by
  unfold Obligations.WindowIsLittleEndian
  constructor
  · intro s x
    refine ⟨windowByte_outbuf s x, ?_⟩
    rw [regAt_outbuf ⟨x.val / 4, by omega⟩]
    exact byteOf_outbufWord s.outbuf x
  · intro s off h4
    have hlow : windowByte s off = byteOf (readReg s (regAt off)) 0 := windowByte_add (k := 0) s h4 (by decide)
    rw [hlow, windowByte_add s h4 (by decide), windowByte_add s h4 (by decide), windowByte_add s h4 (by decide)]
    exact (append_byteOf _).symm

end Sys2Proof.Machine
end

section
/-! What the window shows of a command (10_state.md rules R20, R29, R41, 20_memory.md rule R61), from the frame of exec and the map. -/

namespace Sys2Proof.Machine

/-! ### The window's frames -/

/-- The bytes of the window that a command may change, besides those of the sequencer's own registers, by the groups of its row
(10_state.md rules R20, R41). -/
def shownIn (x : Nat) : Part → Prop
  | .out => 0x080 ≤ x ∧ x < 0x088
  | .outbuf => 0x0C0 ≤ x ∧ x < 0x100
  | .cc => 0x100 ≤ x ∧ x < 0x10C
  | .ent => 0x140 ≤ x ∧ x < 0x148
  | .xo | .pcg | .sm => False

/-- Every byte of the window but those of STATUS, the fault registers and the groups of the command's row reads as before. -/
theorem windowByte_exec {i : Instr} {s t : State} {x : Nat} (h : exec i s = .next t) (hstatus : ¬(0x008 ≤ x ∧ x < 0x00C))
    (hfault : ¬(0x010 ≤ x ∧ x < 0x01C)) (hparts : ∀ p ∈ writesOf i, ¬shownIn x p) : windowByte t x = windowByte s x := by
  obtain ⟨hcc, -, -, -, hent, hout, houtbuf, hseed, hlast, -⟩ := commandsWriteTheirRowOnly i s t h
  suffices hread : readReg t (regAt (4 * (x / 4))) = readReg s (regAt (4 * (x / 4))) by
    simp only [windowByte, hread]
  obtain hoff | hoff := offset_of_regAt (off := 4 * (x / 4)) rfl (by omega)
  · rw [hoff]
    rfl
  generalize regAt (4 * (x / 4)) = r at hoff
  have hrange : ∀ n, r.offset = some n → n ≤ x ∧ x < n + 4 := by
    intro n hn
    have := Option.some.inj (hn.symm.trans hoff)
    omega
  have hunwritten : ∀ n p, r.offset = some n → (n ≤ x ∧ x < n + 4 → shownIn x p) → p ∉ writesOf i :=
    fun n p hn hshown hp => hparts p hp (hshown (hrange n hn))
  cases r with
  | id => rfl
  | version => rfl
  | reserved => rfl
  | status => exact absurd (hrange 0x008 rfl) hstatus
  | faultCause => exact absurd (hrange 0x010 rfl) (by omega)
  | faultCmd => exact absurd (hrange 0x014 rfl) (by omega)
  | faultInfo => exact absurd (hrange 0x018 rfl) (by omega)
  | cmd => exact hlast
  | seed n => exact congrArg (·[n]) hseed
  | outLo => exact (hout (hunwritten 0x080 .out rfl fun hx => ⟨by omega, by omega⟩)).1
  | outHi => exact (hout (hunwritten 0x084 .out rfl fun hx => ⟨by omega, by omega⟩)).2
  | outbuf j => exact congrArg (outbufWord · j) (houtbuf (hunwritten (0x0C0 + 4 * j.val) .outbuf rfl fun hx => ⟨by omega, by omega⟩))
  | ccCtrLo => exact congrArg (·.words[12]) (hcc (hunwritten 0x100 .cc rfl fun hx => ⟨by omega, by omega⟩))
  | ccCtrHi => exact congrArg (·.words[13]) (hcc (hunwritten 0x104 .cc rfl fun hx => ⟨by omega, by omega⟩))
  | ccCursor => exact congrArg (·.cur.setWidth 32) (hcc (hunwritten 0x108 .cc rfl fun hx => ⟨by omega, by omega⟩))
  | entRct => simp only [readReg, (hent (hunwritten 0x140 .ent rfl fun hx => ⟨by omega, by omega⟩)).1]
  | entApt => simp only [readReg, (hent (hunwritten 0x144 .ent rfl fun hx => ⟨by omega, by omega⟩)).1]

/-! ### NEXT commands and loads -/

/-- A renewal changes no ChaCha state word but the two of the counter. -/
theorem getElem_words_of_renewIf {c : Bool} {u v : Chacha} (h : renewIf c u = some v) {n : Nat} (hn : n < 16) (h12 : n ≠ 12)
    (h13 : n ≠ 13) : v.words[n] = u.words[n] := by
  obtain ⟨-, hr⟩ | ⟨-, -, hr⟩ | ⟨-, w, hw, hr⟩ := renewIf_cases c u <;> cases hr.symm.trans h
  · rfl
  · obtain ⟨-, -, hwords, -⟩ := regenerate_some hw
    simp only [hwords, bumpCounter_eq_withCounter]
    exact getElem_withCounter_of_ne _ _ hn h12 h13

/-- A ChaCha NEXT command changes no state word but the two of the counter (40_chacha.md rule R111). -/
theorem exec_ccNext_words {i : Instr} {s t : State} (hi : i = .ccNext32 ∨ i = .ccNext64) (h : exec i s = .next t) {n : Nat}
    (hn : n < 16) (h12 : n ≠ 12) (h13 : n ≠ 13) : t.cc.words[n] = s.cc.words[n] := by
  obtain ⟨c, rfl⟩ | ⟨k, v, w, -, hr, rfl⟩ := exec_ccNext_next hi h
  · rfl
  · exact getElem_words_of_renewIf hr hn h12 h13

/-- Settles O29: OUT and, for ChaCha, the ChaCha unit are all that the seven commands' rows name. -/
theorem nextCommandsWindowFrame : Obligations.NextCommandsWindowFrame := by
  unfold Obligations.NextCommandsWindowFrame
  intro i s t hi h
  have hrow : ∀ p ∈ writesOf i, p = .out ∨ (p = .cc ∧ (i = .ccNext32 ∨ i = .ccNext64)) ∨ p = .xo ∨ p = .pcg ∨ p = .sm := by
    simp only [List.mem_cons, List.not_mem_nil, or_false] at hi
    obtain rfl | rfl | rfl | rfl | rfl | rfl | rfl := hi <;> decide
  constructor
  · intro x hstatus hfault hout hcc
    refine windowByte_exec h hstatus hfault fun p hp => ?_
    obtain rfl | ⟨rfl, hi⟩ | rfl | rfl | rfl := hrow p hp
    · exact hout
    · exact hcc.resolve_right (by tauto)
    all_goals exact id
  · intro n h12 h13
    by_cases hnext : i = .ccNext32 ∨ i = .ccNext64
    · exact exec_ccNext_words hnext h n.isLt h12 h13
    · have hcc : Part.cc ∉ writesOf i := fun hp => by simpa [hnext] using hrow .cc hp
      rw [exec_keeps_cc h hcc]

/-- Settles O30: a load writes the unit of its row, and only the ChaCha unit has a place in the window. -/
theorem loadCommandsWindowFrame : Obligations.LoadCommandsWindowFrame := by
  unfold Obligations.LoadCommandsWindowFrame
  intro i s t hi h x hstatus hfault hcc
  have hrow : ∀ p ∈ writesOf i, p = .cc ∨ p = .xo ∨ p = .pcg ∨ p = .sm := by
    simp only [List.mem_cons, List.not_mem_nil, or_false] at hi
    obtain rfl | rfl | rfl | rfl | rfl | rfl | rfl | rfl := hi <;> decide
  refine windowByte_exec h hstatus hfault fun p hp => ?_
  obtain rfl | rfl | rfl | rfl := hrow p hp
  · exact hcc.resolve_right (not_not.mpr hp)
  all_goals exact id

/-! ### Fills -/

/-- OUTBUF reads 0 after the bytes of a fill (10_state.md rule R29). -/
theorem getElem_padded_of_le {bytes : List Byte} {x : Nat} (hx : x < 64) (h : bytes.length ≤ x) : (padded bytes)[x] = 0#8 := by
  simp [padded, h]

/-- A window whose OUTBUF holds a fill of at most LEN bytes reads 0 from LEN on. -/
theorem windowByte_outbuf_of_padded {t : State} {bytes : List Byte} {len x : Nat} (ht : t.outbuf = padded bytes)
    (hbytes : bytes.length ≤ len) (hlen : len ≤ x) (hx : x < 64) : windowByte t (0x0C0 + x) = 0#8 := by
  rw [windowByte_outbuf t ⟨x, hx⟩, Fin.getElem_fin]
  simp only [ht]
  exact getElem_padded_of_le hx (hbytes.trans hlen)

/-- Settles O31: a fill's row is its unit and OUTBUF, and its completion pads OUTBUF with zeros. -/
theorem fillCommandsWindowFrame : Obligations.FillCommandsWindowFrame := by
  unfold Obligations.FillCommandsWindowFrame
  intro len s t _
  refine ⟨fun h => ⟨fun x hstatus hfault hx => ?_, fun _ ht x hlen hx => ?_⟩,
    fun h => ⟨fun x hstatus hfault hbuf hent => ?_, fun hs ht hdone x hlen hx => ?_⟩⟩
  · refine windowByte_exec h hstatus hfault ?_
    simp only [writesOf, List.forall_mem_cons, shownIn]
    exact ⟨by omega, by omega, by simp⟩
  · obtain ⟨c, n, rfl⟩ | ⟨c, n, rfl⟩ | ⟨bytes, hbytes, rfl⟩ := execCcFill_next h
    · cases ht
    · cases ht
    · exact windowByte_outbuf_of_padded rfl hbytes.le hlen hx
  · refine windowByte_exec h hstatus hfault ?_
    simp only [writesOf, List.forall_mem_cons, shownIn]
    exact ⟨hent, hbuf, by simp⟩
  · obtain ⟨p, ⟨e, ⟨c, n, rfl⟩ | ⟨data, hdata, rfl⟩⟩ | ⟨e, rfl⟩⟩ := execEntFill_next h
    · cases ht
    · exact windowByte_outbuf_of_padded rfl hdata hlen hx
    · exact absurd (hs.symm.trans hdone) (by decide)

end Sys2Proof.Machine
end

section
/-! The state after a release of the reset input (10_state.md rule R42, 70_reset_and_hazards.md rule R270). -/

namespace Sys2Proof.Machine

/-- Settles O21: the step releases the reset input, and each field of `releaseReset` is the reset state's. -/
theorem releaseOfResetClearsAll : Obligations.ReleaseOfResetClearsAll := by
  unfold Obligations.ReleaseOfResetClearsAll
  intro s rest hrst hmoves
  have hstep : step s = .next ({ s with moves := rest } : State).releaseReset := by
    rw [step_cons hmoves, takeMove_rst]
    simp [driveReset, hrst]
  refine ⟨_, hstep, ?_⟩
  have hcause : regAt 0x010 = .faultCause := rfl
  simp [isIdle, State.reset, Chacha.reset, Ent.reset, hcause, readReg, causeWord]

/-- Settles O23: the reset state is idle, unseeded and all zero. -/
theorem resetMeetsInvariants : Obligations.ResetMeetsInvariants := by
  unfold Obligations.ResetMeetsInvariants
  refine ⟨by decide, (chachaInv_iff _).mpr chacha_valid_reset, ?_, ?_, by decide⟩
  all_goals exact fun hseeded => nomatch hseeded

end Sys2Proof.Machine
end

section
/-! The SEED registers and the accepted command (20_memory.md rule R70, 44_control.md rule R226): a command works on `seq.snap`, the
copy taken at its acceptance. -/

namespace Sys2Proof.Machine

/-- `o` is a next state, and `o'` is the same one but for its SEED registers, which are `seed`. -/
def SameButSeed (seed : Vector Word 10) (o o' : Host.Outcome State Fault Refusal) : Prop :=
  ∃ t, o = .next t ∧ o' = .next { t with seed := seed }

theorem sameButSeed_next (seed : Vector Word 10) (t : State) : SameButSeed seed (.next t) (.next { t with seed := seed }) :=
  ⟨t, rfl, rfl⟩

theorem fillFinish_with_seed (len : BitVec 8) (s : State) (seed : Vector Word 10) :
    fillFinish len { s with seed := seed } = { fillFinish len s with seed := seed } := by
  dsimp only [fillFinish]
  split
  · rfl
  · split <;> rfl

theorem fillAfterByte_with_seed (len : BitVec 8) (s : State) (seed : Vector Word 10) :
    fillAfterByte len { s with seed := seed } = { fillAfterByte len s with seed := seed } := by
  dsimp only [fillAfterByte]
  split
  · split
    · rfl
    · split
      · exact fillFinish_with_seed len (s.setEnt { s.ent with phase := .data }) seed
      · rfl
  · split
    · exact fillFinish_with_seed len s seed
    · rfl

theorem sameButSeed_execEntFill (len : BitVec 8) (s : State) (seed : Vector Word 10) :
    SameButSeed seed (execEntFill len s) (execEntFill len { s with seed := seed }) := by
  dsimp only [execEntFill]
  split
  · split
    · exact sameButSeed_next seed _
    · exact sameButSeed_next seed s
    · exact sameButSeed_next seed _
    · next b _ _ =>
      exact ⟨_, rfl, congrArg _ (fillAfterByte_with_seed len ((s.setPort none).setEnt (storeByte s.ent b)) seed)⟩
  · exact sameButSeed_next seed _

/-- Settles O16: each command branches on its units, the snapshot and the port alone, and no branch reads or writes a SEED register. -/
theorem seedWritesDoNotReachCommand : Obligations.SeedWritesDoNotReachCommand := by
  unfold Obligations.SeedWritesDoNotReachCommand
  intro s i seed
  change SameButSeed seed (exec i s) (exec i { s with seed := seed })
  cases i with
  | nop | xoSeed64 | pcgLoad | smLoad => exact sameButSeed_next seed _
  | ccLoad rnd =>
    dsimp only [exec_ccLoad, execCcLoad]
    split <;> exact sameButSeed_next seed _
  | ccNext32 | ccNext64 =>
    dsimp only [exec_ccNext32, exec_ccNext64, execCcNext32, execCcNext64]
    split
    · split <;> exact sameButSeed_next seed _
    · exact sameButSeed_next seed _
  | ccFill len =>
    dsimp only [exec_ccFill, execCcFill]
    split
    · split
      · split <;> exact sameButSeed_next seed _
      · exact sameButSeed_next seed _
    · exact sameButSeed_next seed _
  | xoLoad | xoNext32 | xoNext64 | pcgNext32 | pcgNext64 | smNext64 =>
    dsimp only [exec_xoLoad, exec_xoNext32, exec_xoNext64, exec_pcgNext32, exec_pcgNext64, exec_smNext64, execXoLoad,
      execXoNext32, execXoNext64, execPcgNext32, execPcgNext64, execSmNext64]
    split <;> exact sameButSeed_next seed _
  | entFill len => exact sameButSeed_execEntFill len s seed

end Sys2Proof.Machine
end

section
/-! The bus access of a host (20_memory.md rules R60, R62, R63, R66; 60_exceptions.md rules R249, R252). -/

namespace Sys2Proof.Machine

/-! ### Admission -/

/-- An access in the window and out of reset is admitted or refused by its width and its offset (20_memory.md rule R63). -/
theorem hostAccess_of_windowOffset {s : State} {a : Access} {off : Nat} (hrst : s.rst = false)
    (hoff : windowOffset s a.addr = some off) : hostAccess s a =
      if a.bytes = 4 ∧ off % 4 = 0 then .next (admitted s off a.kind) else .refused .badAccess := by
  simp [hostAccess, hrst, hoff]

theorem windowOffset_eq_none_of_outside {s : State} {addr : Nat} (h : addr < pBase s ∨ pBase s + 4096 ≤ addr) :
    windowOffset s addr = none := by
  refine Option.eq_none_iff_forall_ne_some.mpr fun off hoff => ?_
  obtain ⟨rfl, hlt⟩ := windowOffset_eq_some_iff.mp hoff
  omega

/-- Settles O10, from `windowOffset_pBase` and the one test on width and offset. -/
theorem onlyAlignedWordsAdmitted : Obligations.OnlyAlignedWordsAdmitted := by
  unfold Obligations.OnlyAlignedWordsAdmitted
  intro s h off n k hrst hlt
  rw [hostAccess_of_windowOffset hrst (windowOffset_pBase hlt)]
  exact ⟨fun h => if_pos h, fun h => if_neg h⟩

/-- Settles O11: the window test comes before every other, and no test looks at the host. -/
theorem windowBoundsAndHosts : Obligations.WindowBoundsAndHosts := by
  unfold Obligations.WindowBoundsAndHosts
  refine ⟨fun s a houtside => ?_, fun s a h => rfl⟩
  simp only [hostAccess, windowOffset_eq_none_of_outside houtside]

/-! ### Effects -/

/-- A write of STATUS clears OVR exactly where bit 2 is set (10_state.md rule R23). -/
theorem writeStatus_eq (s : State) (v : Word) : writeStatus s v = { s with ovr := s.ovr && !v.getLsbD 2 } := by
  cases hbit : v.getLsbD 2 <;> simp [writeStatus, hbit, -BitVec.getLsbD_eq_getElem]

/-- `rdata` is no register: what a read left there is not read again (log 8). -/
theorem readReg_with_rdata (s : State) (d : Option Word) (r : Reg) : readReg { s with rdata := d } r = readReg s r := by
  cases r <;> rfl

/-- A write to another register than CMD, STATUS and SEED0..SEED9 is ignored (20_memory.md rule R66). -/
theorem admitted_write_ignored {s : State} {off : Nat} (v : Word) (h4 : off % 4 = 0) (hcmd : off ≠ 0x00C)
    (hstatus : off ≠ 0x008) (hseed : ¬(0x040 ≤ off ∧ off ≤ 0x064)) : admitted s off (.write v) = s := by
  change writeReg s (regAt off) v = s
  have hoffset : regAt off = .reserved ∨ (regAt off).offset = some off := offset_of_regAt rfl h4
  obtain ⟨hr, -⟩ | ⟨hr, -⟩ | ⟨i, hr, -⟩ | ⟨-, -, -, hignored⟩ := writeReg_cases s (regAt off) v
  case inr.inr.inr => exact hignored
  all_goals
    simp only [hr, Reg.offset, reduceCtorEq, false_or, Option.some.injEq] at hoffset
    omega

theorem issue_of_isIdle {s : State} (h : isIdle s) (v : Word) : issue s v = s.accept v := by
  obtain ⟨hbusy, hfault⟩ := h
  simp [issue, hbusy, hfault]

theorem issue_of_isBusy {s : State} (h : isBusy s) (v : Word) : issue s v = { s with ovr := true } := by
  obtain ⟨hbusy, hfault⟩ := h
  simp [issue, hbusy, hfault]

/-- The second of two CMD writes from IDLE finds the first one's command accepted and is dropped (44_control.md rules R221, R223). -/
theorem issue_issue_of_isIdle {s : State} (h : isIdle s) (v w : Word) :
    issue (issue s v) w = { s.accept v with ovr := true } := by
  have ⟨_, hfault⟩ := h
  rw [issue_of_isIdle h, issue_of_isBusy ⟨State.accept_busy s v, hfault⟩]

/-- Settles O15, one effect after another; where two CMD writes differ from one is OVR, which an acceptance leaves as it is. -/
theorem accessEffects : Obligations.AccessEffects := by
  unfold Obligations.AccessEffects
  refine ⟨fun s off => ⟨rfl, ?_⟩, fun s v => rfl, writeStatus_eq, fun s n v => ?_,
    fun _ _ => admitted_write_ignored, fun s v hidle hovr heq => ?_⟩
  · exact congrArg some (readReg_with_rdata s _ _)
  · change writeReg s (regAt (0x040 + 4 * n.val)) v = _
    rw [regAt_seed]
    rfl
  · rw [issue_issue_of_isIdle hidle, issue_of_isIdle hidle] at heq
    have hset : true = s.ovr := congrArg State.ovr heq
    simp [hovr] at hset

end Sys2Proof.Machine
end

section
/-! The command words: what the decoder does by opcode and by format, and the two directions of the round trip with the encoder
(30_encoding.md rules R81 to R84, R86, R88). -/

namespace Sys2Proof

open Machine

/-! ### The fields -/

@[simp] theorem opcode_encodeL (len op : BitVec 8) : (encodeL len op).extractLsb' 0 8 = op :=
  BitVec.extractLsb'_append_eq_right

@[simp] theorem len_encodeL (len op : BitVec 8) : (encodeL len op).extractLsb' 8 8 = len := by
  rw [encodeL, BitVec.extractLsb'_append_eq_of_le (by decide)]
  exact BitVec.extractLsb'_append_eq_right

/-- A word in format Z whose zero field is 0 is made of its opcode. -/
theorem encodeZ_fields {w : Word} (h : w.extractLsb' 8 24 = 0#24) : encodeZ (w.extractLsb' 0 8) = w := by
  rw [encodeZ, ← h, BitVec.extractLsb'_append_extractLsb'_eq_extractLsb' (by decide)]
  exact BitVec.extractLsb'_eq_self

/-- A word in format L whose zero field is 0 is made of its LEN and its opcode. -/
theorem encodeL_fields {w : Word} (h : w.extractLsb' 16 16 = 0#16) :
    encodeL (w.extractLsb' 8 8) (w.extractLsb' 0 8) = w := by
  rw [encodeL, ← h, BitVec.extractLsb'_append_extractLsb'_eq_extractLsb' (by decide),
    BitVec.extractLsb'_append_extractLsb'_eq_extractLsb' (by decide)]
  exact BitVec.extractLsb'_eq_self

/-- A word in format R whose zero field is 0 is made of its round code and its opcode. -/
theorem encodeR_fields {w : Word} {r : Rounds} (h : w.extractLsb' 10 22 = 0#22) (hr : codeOfRounds r = w.extractLsb' 8 2) :
    encodeR r (w.extractLsb' 0 8) = w := by
  rw [encodeR, ← h, hr, BitVec.extractLsb'_append_extractLsb'_eq_extractLsb' (by decide),
    BitVec.extractLsb'_append_extractLsb'_eq_extractLsb' (by decide)]
  exact BitVec.extractLsb'_eq_self

theorem lenOk_iff (len : BitVec 8) : lenOk len = true ↔ len.toNat ≤ 64 := decide_eq_true_iff

/-- The code of a round count is the only one that means it. -/
theorem codeOfRounds_of_roundsOfCode {code : BitVec 2} {r : Rounds} (h : roundsOfCode code = some r) :
    codeOfRounds r = code := by
  cases r <;> revert code <;> decide

/-- Code 3 is the one that means no round count (30_encoding.md rule R83). -/
theorem roundsOfCode_eq_none_iff (code : BitVec 2) : roundsOfCode code = none ↔ code = 3#2 := by
  revert code
  decide

/-! ### The formats -/

section
variable {w : Word} {i j : Instr} {mkL : BitVec 8 → Instr} {mkR : Rounds → Instr}

theorem decodeZ_of_reserved (h : w.extractLsb' 8 24 ≠ 0#24) : decodeZ w i = .error .reservedBits := if_pos h

theorem decodeZ_of_zero (h : w.extractLsb' 8 24 = 0#24) : decodeZ w i = .ok i := if_neg (not_not_intro h)

theorem decodeL_of_reserved (h : w.extractLsb' 16 16 ≠ 0#16) : decodeL w mkL = .error .reservedBits := if_pos h

theorem decodeL_of_zero (h : w.extractLsb' 16 16 = 0#16) :
    decodeL w mkL = if lenOk (w.extractLsb' 8 8) then .ok (mkL (w.extractLsb' 8 8)) else .error .lenRange :=
  if_neg (not_not_intro h)

theorem decodeR_of_reserved (h : w.extractLsb' 10 22 ≠ 0#22) : decodeR w mkR = .error .reservedBits := if_pos h

theorem decodeR_of_rnd {r : Rounds} (h : w.extractLsb' 10 22 = 0#22) (hr : roundsOfCode (w.extractLsb' 8 2) = some r) :
    decodeR w mkR = .ok (mkR r) := by
  simp [decodeR, h, hr]

theorem decodeR_of_badRnd (h : w.extractLsb' 10 22 = 0#22) (hr : w.extractLsb' 8 2 = 3#2) :
    decodeR w mkR = .error .rndIllegal := by
  simp [decodeR, h, (roundsOfCode_eq_none_iff _).mpr hr]

theorem decodeZ_eq_ok (h : decodeZ w i = .ok j) : w.extractLsb' 8 24 = 0#24 ∧ j = i := by
  by_cases hz : w.extractLsb' 8 24 = 0#24
  · cases (decodeZ_of_zero hz).symm.trans h
    exact ⟨hz, rfl⟩
  · cases (decodeZ_of_reserved hz).symm.trans h

theorem decodeL_eq_ok (h : decodeL w mkL = .ok j) :
    w.extractLsb' 16 16 = 0#16 ∧ lenOk (w.extractLsb' 8 8) = true ∧ j = mkL (w.extractLsb' 8 8) := by
  by_cases hz : w.extractLsb' 16 16 = 0#16
  · rw [decodeL_of_zero hz] at h
    split at h
    next hlen => cases h; exact ⟨hz, hlen, rfl⟩
    next => cases h
  · cases (decodeL_of_reserved hz).symm.trans h

theorem decodeR_eq_ok (h : decodeR w mkR = .ok j) :
    ∃ r, w.extractLsb' 10 22 = 0#22 ∧ codeOfRounds r = w.extractLsb' 8 2 ∧ j = mkR r := by
  by_cases hz : w.extractLsb' 10 22 = 0#22
  · cases hr : roundsOfCode (w.extractLsb' 8 2) with
    | some r =>
      cases (decodeR_of_rnd hz hr).symm.trans h
      exact ⟨r, hz, codeOfRounds_of_roundsOfCode hr, rfl⟩
    | none => cases (decodeR_of_badRnd hz ((roundsOfCode_eq_none_iff _).mp hr)).symm.trans h
  · cases (decodeR_of_reserved hz).symm.trans h

/-- Format L gives a legal LEN back. -/
theorem decodeL_encodeL {len : BitVec 8} (h : lenOk len = true) (op : BitVec 8) :
    decodeL (encodeL len op) mkL = .ok (mkL len) := by
  rw [decodeL_of_zero (Laws.HighHalfZero.upper_half len op), len_encodeL, if_pos h]

end

/-! ### The opcode map -/

/-- The opcodes of format Z (30_encoding.md rules R81, R84). -/
def opsZ : List Nat := [0x00, 0x02, 0x03, 0x10, 0x11, 0x12, 0x13, 0x20, 0x21, 0x22, 0x30, 0x31]

/-- The opcodes of format L (30_encoding.md rules R82, R84). -/
def opsL : List Nat := [0x04, 0x40]

/-- The opcodes of format R (30_encoding.md rules R83, R84). -/
def opsR : List Nat := [0x01]

section
variable {w : Word}

theorem opcode_eq_ofNat {n : Nat} (h : (w.extractLsb' 0 8).toNat = n) : w.extractLsb' 0 8 = BitVec.ofNat 8 n := by
  rw [← h, BitVec.ofNat_toNat, BitVec.setWidth_eq]

/-- The decoder and the encoder agree on an opcode of format Z. -/
theorem decode_of_mem_opsZ (h : (w.extractLsb' 0 8).toNat ∈ opsZ) :
    ∃ i, decode w = decodeZ w i ∧ encode i = encodeZ (w.extractLsb' 0 8) ∧ i.wellFormed = true := by
  generalize hn : (w.extractLsb' 0 8).toNat = n at h
  rw [decode, hn, opcode_eq_ofNat hn]
  clear hn
  fin_cases h <;> exact ⟨_, rfl, rfl, rfl⟩

/-- The decoder and the encoder agree on an opcode of format L. -/
theorem decode_of_mem_opsL (h : (w.extractLsb' 0 8).toNat ∈ opsL) :
    ∃ mk, decode w = decodeL w mk ∧
      ∀ len, encode (mk len) = encodeL len (w.extractLsb' 0 8) ∧ (mk len).wellFormed = lenOk len := by
  generalize hn : (w.extractLsb' 0 8).toNat = n at h
  rw [decode, hn, opcode_eq_ofNat hn]
  clear hn
  fin_cases h <;> exact ⟨_, rfl, fun _ => ⟨rfl, rfl⟩⟩

/-- The decoder and the encoder agree on the opcode of format R. -/
theorem decode_of_mem_opsR (h : (w.extractLsb' 0 8).toNat ∈ opsR) :
    decode w = decodeR w .ccLoad ∧ ∀ r, encode (.ccLoad r) = encodeR r (w.extractLsb' 0 8) := by
  have hn := List.mem_singleton.mp h
  rw [decode, hn, opcode_eq_ofNat hn]
  exact ⟨rfl, fun _ => rfl⟩

theorem decode_of_not_mem_ops (h : (w.extractLsb' 0 8).toNat ∉ opsZ ++ opsL ++ opsR) : decode w = .error .unknownOp := by
  unfold decode
  split
  case h_16 => rfl
  all_goals
    rename_i hn
    rw [hn] at h
    exact absurd (by decide) h

/-- A word that decodes has an opcode of one of the formats. -/
theorem opcode_mem_of_decode_eq_ok {i : Instr} (h : decode w = .ok i) :
    (w.extractLsb' 0 8).toNat ∈ opsZ ∨ (w.extractLsb' 0 8).toNat ∈ opsL ∨ (w.extractLsb' 0 8).toNat ∈ opsR := by
  by_contra hop
  have hunknown := decode_of_not_mem_ops (w := w) (by simpa [or_assoc] using hop)
  cases hunknown.symm.trans h

end

/-! ### The round trip -/

/-- Settles O1: a word without LEN is one of 15 fixed words, and format L gives its LEN back by `decodeL_encodeL`. -/
theorem decodeOfEncode : Obligations.DecodeOfEncode := by
  unfold Obligations.DecodeOfEncode
  intro i hwf
  cases i with
  | ccLoad rnd => cases rnd <;> rfl
  | ccFill len | entFill len =>
    rw [encode, decode, opcode_encodeL]
    exact decodeL_encodeL hwf _
  | _ => rfl

/-- Settles O2, format by format: a word that passes its format's checks is made of its fields. -/
theorem encodeOfDecode : Obligations.EncodeOfDecode := by
  unfold Obligations.EncodeOfDecode
  intro w i h
  obtain hop | hop | hop := opcode_mem_of_decode_eq_ok h
  · obtain ⟨j, hdec, henc, hwf⟩ := decode_of_mem_opsZ hop
    obtain ⟨hz, rfl⟩ := decodeZ_eq_ok (hdec ▸ h)
    exact ⟨hwf, henc.trans (encodeZ_fields hz)⟩
  · obtain ⟨mk, hdec, hmk⟩ := decode_of_mem_opsL hop
    obtain ⟨hz, hlen, rfl⟩ := decodeL_eq_ok (hdec ▸ h)
    obtain ⟨henc, hwf⟩ := hmk (w.extractLsb' 8 8)
    exact ⟨hwf.trans hlen, henc.trans (encodeL_fields hz)⟩
  · obtain ⟨hdec, henc⟩ := decode_of_mem_opsR hop
    obtain ⟨r, hz, hr, rfl⟩ := decodeR_eq_ok (hdec ▸ h)
    exact ⟨rfl, (henc r).trans (encodeR_fields hz hr)⟩

/-! ### The checks in their order -/

/-- A bit of the zero field of the word's format is set. -/
def HasReserved (w : Word) : Prop :=
  ((w.extractLsb' 0 8).toNat ∈ opsZ ∧ w.extractLsb' 8 24 ≠ 0#24) ∨
  ((w.extractLsb' 0 8).toNat ∈ opsL ∧ w.extractLsb' 16 16 ≠ 0#16) ∨
  ((w.extractLsb' 0 8).toNat ∈ opsR ∧ w.extractLsb' 10 22 ≠ 0#22)

section
variable {w : Word}

theorem decode_of_hasReserved (h : HasReserved w) : decode w = .error .reservedBits := by
  obtain ⟨hop, hz⟩ | ⟨hop, hz⟩ | ⟨hop, hz⟩ := h
  · obtain ⟨i, hdec, -⟩ := decode_of_mem_opsZ hop
    exact hdec.trans (decodeZ_of_reserved hz)
  · obtain ⟨mk, hdec, -⟩ := decode_of_mem_opsL hop
    exact hdec.trans (decodeL_of_reserved hz)
  · obtain ⟨hdec, -⟩ := decode_of_mem_opsR hop
    exact hdec.trans (decodeR_of_reserved hz)

theorem zeroZ_of_not_hasReserved (h : ¬HasReserved w) (hop : (w.extractLsb' 0 8).toNat ∈ opsZ) :
    w.extractLsb' 8 24 = 0#24 :=
  of_not_not fun hz => h (.inl ⟨hop, hz⟩)

theorem zeroL_of_not_hasReserved (h : ¬HasReserved w) (hop : (w.extractLsb' 0 8).toNat ∈ opsL) :
    w.extractLsb' 16 16 = 0#16 :=
  of_not_not fun hz => h (.inr (.inl ⟨hop, hz⟩))

theorem zeroR_of_not_hasReserved (h : ¬HasReserved w) (hop : (w.extractLsb' 0 8).toNat ∈ opsR) :
    w.extractLsb' 10 22 = 0#22 :=
  of_not_not fun hz => h (.inr (.inr ⟨hop, hz⟩))

theorem decode_of_badLen (h : ¬HasReserved w) (hop : (w.extractLsb' 0 8).toNat ∈ opsL) (hlen : 64 < (w.extractLsb' 8 8).toNat) :
    decode w = .error .lenRange := by
  obtain ⟨mk, hdec, -⟩ := decode_of_mem_opsL hop
  rw [hdec, decodeL_of_zero (zeroL_of_not_hasReserved h hop), if_neg (mt (lenOk_iff _).mp (by omega))]

theorem decode_of_badRnd (h : ¬HasReserved w) (hop : (w.extractLsb' 0 8).toNat ∈ opsR) (hrnd : w.extractLsb' 8 2 = 3#2) :
    decode w = .error .rndIllegal := by
  obtain ⟨hdec, -⟩ := decode_of_mem_opsR hop
  exact hdec.trans (decodeR_of_badRnd (zeroR_of_not_hasReserved h hop) hrnd)

/-- A word that passes the checks of its format decodes. -/
theorem decode_of_passes (hop : (w.extractLsb' 0 8).toNat ∈ opsZ ++ opsL ++ opsR) (h : ¬HasReserved w)
    (hlen : ¬((w.extractLsb' 0 8).toNat ∈ opsL ∧ 64 < (w.extractLsb' 8 8).toNat))
    (hrnd : ¬((w.extractLsb' 0 8).toNat ∈ opsR ∧ w.extractLsb' 8 2 = 3#2)) : ∃ i, decode w = .ok i := by
  simp only [List.mem_append] at hop
  obtain (hop | hop) | hop := hop
  · obtain ⟨i, hdec, -⟩ := decode_of_mem_opsZ hop
    exact ⟨i, hdec.trans (decodeZ_of_zero (zeroZ_of_not_hasReserved h hop))⟩
  · obtain ⟨mk, hdec, -⟩ := decode_of_mem_opsL hop
    have hok : lenOk (w.extractLsb' 8 8) = true := (lenOk_iff _).mpr (not_lt.mp fun hgt => hlen ⟨hop, hgt⟩)
    exact ⟨_, hdec.trans ((decodeL_of_zero (zeroL_of_not_hasReserved h hop)).trans (if_pos hok))⟩
  · obtain ⟨hdec, -⟩ := decode_of_mem_opsR hop
    obtain ⟨r, hr⟩ := Option.ne_none_iff_exists'.mp
      (mt (roundsOfCode_eq_none_iff (w.extractLsb' 8 2)).mp fun hthree => hrnd ⟨hop, hthree⟩)
    exact ⟨_, hdec.trans (decodeR_of_rnd (zeroR_of_not_hasReserved h hop) hr)⟩

end

/-- Settles O3, a check at a time; the command of a word that passes them is the one O2 speaks of. -/
theorem decodeChecksInOrder : Obligations.DecodeChecksInOrder := by
  unfold Obligations.DecodeChecksInOrder
  intro s w op z l r reserved badLen badRnd
  refine ⟨fun hop => runCommand_of_error (decode_of_not_mem_ops hop),
    fun hres => runCommand_of_error (decode_of_hasReserved hres),
    fun hres ⟨hop, hlen⟩ => runCommand_of_error (decode_of_badLen hres hop hlen),
    fun hres ⟨hop, hrnd⟩ => runCommand_of_error (decode_of_badRnd hres hop hrnd), fun hop hres hlen hrnd => ?_⟩
  obtain ⟨i, hi⟩ := decode_of_passes hop hres hlen hrnd
  exact ⟨i, (encodeOfDecode w i hi).2, hi, runCommand_of_ok hi⟩

/-- Settles O4, by evaluating the decoder on each word. -/
theorem knownWordsDecode : Obligations.KnownWordsDecode := by
  unfold Obligations.KnownWordsDecode
  decide

end Sys2Proof
end

section
/-! The ChaCha block function (40_chacha.md rules R102 to R106): lanes, rounds, byte order, Regenerate, and the construction of CC_LOAD. -/

namespace Sys2Proof.Machine

/-! ### The quarter-round and the double-round -/

theorem rotl32_eq_rotateLeft (a : Word) {k : Nat} (hk : k < 32) : rotl32 a k = a.rotateLeft k := by
  unfold rotl32
  rw [BitVec.rotateLeft_def, Nat.mod_eq_of_lt hk]
  split
  · next h => simp [h, BitVec.ushiftRight_eq_zero]
  · rfl

/-- Half of a quarter-round: six of its twelve operations, which come twice, the second time with other rotations (40_chacha.md rule
R102). -/
def halfRound (a b c d : Fin 16) (k l : Nat) (w : Vector Word 16) : Vector Word 16 :=
  let w := w.set a (w[a] + w[b])
  let w := w.set d (rotl32 (w[d] ^^^ w[a]) k)
  let w := w.set c (w[c] + w[d])
  w.set b (rotl32 (w[b] ^^^ w[c]) l)

theorem quarterRound_eq_halfRounds (a b c d : Fin 16) (w : Vector Word 16) :
    quarterRound a b c d w = halfRound a b c d 8 7 (halfRound a b c d 16 12 w) := rfl

/-- On distinct lanes no set of a half hides another's lane, and a half touches no lane but its four. -/
theorem getElem_halfRound {a b c d : Fin 16} {k l : Nat} (w : Vector Word 16) (hk : k < 32) (hl : l < 32) (hab : a ≠ b)
    (hac : a ≠ c) (had : a ≠ d) (hbc : b ≠ c) (hbd : b ≠ d) (hcd : c ≠ d) :
    let a1 := w[a] + w[b]
    let d1 := (w[d] ^^^ a1).rotateLeft k
    let c1 := w[c] + d1
    (halfRound a b c d k l w)[a] = a1 ∧ (halfRound a b c d k l w)[b] = (w[b] ^^^ c1).rotateLeft l ∧
    (halfRound a b c d k l w)[c] = c1 ∧ (halfRound a b c d k l w)[d] = d1 ∧
    ∀ i : Fin 16, i ≠ a → i ≠ b → i ≠ c → i ≠ d → (halfRound a b c d k l w)[i] = w[i] := by
  simp only [ne_eq, Fin.ext_iff] at hab hac had hbc hbd hcd ⊢
  refine ⟨?_, ?_, ?_, ?_, fun i ha hb hc hd => ?_⟩
  · simp [halfRound, *, Ne.symm]
  · simp [halfRound, rotl32_eq_rotateLeft, *, Ne.symm]
  · simp [halfRound, rotl32_eq_rotateLeft, *, Ne.symm]
  · simp [halfRound, rotl32_eq_rotateLeft, *, Ne.symm]
  · simp [halfRound, Ne.symm ha, Ne.symm hb, Ne.symm hc, Ne.symm hd]

/-- Settles O34: a quarter-round is two halves, each on the lanes the other left; the double-round is so by definition. -/
theorem quarterRoundLanes : Obligations.QuarterRoundLanes := by
  unfold Obligations.QuarterRoundLanes
  intro a b c d w hab hac had hbc hbd hcd
  rw [quarterRound_eq_halfRounds]
  have hhalf {k l : Nat} (hk : k < 32) (hl : l < 32) (v : Vector Word 16) :=
    getElem_halfRound v hk hl hab hac had hbc hbd hcd
  obtain ⟨ha1, hb1, hc1, hd1, hframe1⟩ := hhalf (k := 16) (l := 12) (by decide) (by decide) w
  obtain ⟨ha2, hb2, hc2, hd2, hframe2⟩ :=
    hhalf (k := 8) (l := 7) (by decide) (by decide) (halfRound a b c d 16 12 w)
  simp only [ha1, hb1, hc1, hd1] at ha2 hb2 hc2 hd2
  refine ⟨ha2, hb2, hc2, hd2, fun i ha hb hc hd => ?_, rfl⟩
  rw [hframe2 i ha hb hc hd, hframe1 i ha hb hc hd]

theorem doubleRounds_eq_iterate (n : Nat) (w : Vector Word 16) : doubleRounds n w = doubleRound^[n] w := by
  induction n generalizing w with
  | zero => rfl
  | succ n ih => exact ih (doubleRound w)

/-! ### The block -/

/-- The round count of each code (40_chacha.md rule R105). -/
theorem roundCount_of_code (code : BitVec 2) : (roundsOfCode code).map roundCount =
    if code = 0#2 then some 8 else if code = 1#2 then some 12 else if code = 2#2 then some 20 else none := by
  revert code
  decide

/-- Byte `4i + b` of the serialized words is byte `b` of word `i` (40_chacha.md rule R104). -/
theorem getElem_serialize (w : Vector Word 16) (i : Fin 16) (b : Fin 4) :
    (serialize w)[4 * i.val + b.val]'(by omega) = byteOf w[i] b.val := by
  have hword : (4 * i.val + b.val) / 4 = i.val := by omega
  have hbyte : (4 * i.val + b.val) % 4 = b.val := by omega
  simp [serialize, hword, hbyte]

/-- Settles O35: the block is the serialized sum of the input and the state after the double-rounds. -/
theorem blockFunctionBytes : Obligations.BlockFunctionBytes := by
  unfold Obligations.BlockFunctionBytes
  refine ⟨roundCount_of_code, fun s r i b => ?_⟩
  simp only [chachaBlock, getElem_serialize, doubleRounds_eq_iterate]
  simp [byteOf]

/-! ### Regenerate -/

theorem regenerate_of_ne_max {u : Chacha} (h : blockCounter u.words ≠ 0xFFFFFFFFFFFFFFFF#64) :
    regenerate u = some { u with buf := chachaBlock u.words u.rnd, words := bumpCounter u.words } := if_neg h

/-- Settles O36: the two-word increment is the 64-bit one, and writes the counter's words alone. -/
theorem regenerateNextBlock : Obligations.RegenerateNextBlock := by
  unfold Obligations.RegenerateNextBlock
  refine fun u => ⟨(regenerate_eq_none_iff u).mpr, fun hmax => ⟨_, regenerate_of_ne_max hmax, ?_, fun i h12 h13 => ?_⟩⟩
  · change blockCounter (bumpCounter u.words) = blockCounter u.words + 1#64
    rw [bumpCounter_eq_withCounter, blockCounter_withCounter]
  · rw [bumpCounter_eq_withCounter]
    exact getElem_withCounter_of_ne _ _ i.isLt h12 h13

/-! ### CC_LOAD -/

/-- The words of CC_LOAD with a zero field set, or with round code 3, are illegal (30_encoding.md rules R83, R86). -/
theorem decode_illegal_ccLoad {w : Word} (hop : w.extractLsb' 0 8 = 0x01#8) :
    (w.extractLsb' 10 22 ≠ 0#22 → decode w = .error .reservedBits) ∧
    (w.extractLsb' 10 22 = 0#22 → w.extractLsb' 8 2 = 3#2 → decode w = .error .rndIllegal) := by
  obtain ⟨hdec, -⟩ := decode_of_mem_opsR (w := w) (by simp [hop, opsR])
  exact ⟨fun hz => hdec.trans (decodeR_of_reserved hz), fun hz hrnd => hdec.trans (decodeR_of_badRnd hz hrnd)⟩

/-- Settles O37: the constructed counter is 0, so block 0 is generated and the counter becomes 1. -/
theorem ccLoadConstructs : Obligations.CcLoadConstructs := by
  unfold Obligations.CcLoadConstructs
  refine ⟨by decide, by decide, by decide, fun w => decode_illegal_ccLoad, fun s rnd => ?_⟩
  have hgen := regenerate_of_ne_max (u := chachaLoaded s.seqSnap rnd s.cc) (by simp)
  rw [exec_ccLoad, execCcLoad, hgen]
  rfl

end Sys2Proof.Machine
end

section
/-! Reading the keystream (40_chacha.md rules R108, R112, R113): the bytes at the cursor, the renewal, and what each of CC_NEXT32 and
CC_NEXT64 answers. -/

namespace Sys2Proof.Machine

/-! ### The buffer -/

theorem bufByte_of_lt {u : Chacha} {i : Nat} (h : i < 64) : bufByte u i = u.buf[i] := by
  simp [bufByte, h]

/-- A word of the buffer is its four bytes, the first one least significant (00_scope.md rule R9). -/
theorem bufWord_of_le {u : Chacha} {i : Nat} (h : i + 4 ≤ 64) :
    bufWord u i = u.buf[i + 3] ++ u.buf[i + 2] ++ u.buf[i + 1] ++ u.buf[i] := by
  simp only [bufWord, le32]
  rw [bufByte_of_lt, bufByte_of_lt, bufByte_of_lt, bufByte_of_lt]

/-! ### The renewal -/

theorem renewIf_passesEnd_of_fits {u : Chacha} {n : Nat} (h : u.cur.toNat + n ≤ 64) : renewIf (passesEnd u n) u = some u := by
  simp [renewIf, passesEnd, h]

theorem renewIf_passesEnd_eq_none {u : Chacha} {n : Nat} (h : 64 < u.cur.toNat + n) (hreg : regenerate u = none) :
    renewIf (passesEnd u n) u = none := by
  simp [renewIf, passesEnd, h, hreg]

theorem renewIf_passesEnd_eq_some {u v : Chacha} {n : Nat} (h : 64 < u.cur.toNat + n) (hreg : regenerate u = some v) :
    renewIf (passesEnd u n) u = some { v with cur := 0#7 } := by
  simp [renewIf, passesEnd, h, hreg]

/-! ### CC_NEXT32 and CC_NEXT64 -/

section
variable {s : State} {v : Chacha}

theorem execCcNext32_of_unseeded (hs : s.cc.seeded = false) : execCcNext32 s = .next (s.raiseFault .unseeded 0#32) := by
  simp [execCcNext32, hs]

theorem execCcNext32_of_exhausted (hs : s.cc.seeded = true) (h : renewIf (passesEnd s.cc 4) s.cc = none) :
    execCcNext32 s = .next (s.raiseFault .ccExhausted 0#32) := by
  simp [execCcNext32, hs, h]

/-- CC_NEXT32 once the buffer, renewed where it must be, has the four bytes. -/
theorem execCcNext32_of_renewed (hs : s.cc.seeded = true) (h : renewIf (passesEnd s.cc 4) s.cc = some v) :
    execCcNext32 s = .next { s with
      cc := { v with cur := v.cur + 4#7 }, outLo := bufWord v v.cur.toNat, outHi := 0#32, busy := false } := by
  simp [execCcNext32, hs, h, State.setCc, State.setOut, State.complete]

theorem execCcNext64_of_unseeded (hs : s.cc.seeded = false) : execCcNext64 s = .next (s.raiseFault .unseeded 0#32) := by
  simp [execCcNext64, hs]

theorem execCcNext64_of_exhausted (hs : s.cc.seeded = true) (h : renewIf (passesEnd s.cc 8) s.cc = none) :
    execCcNext64 s = .next (s.raiseFault .ccExhausted 0#32) := by
  simp [execCcNext64, hs, h]

/-- CC_NEXT64 once the buffer, renewed where it must be, has the eight bytes. -/
theorem execCcNext64_of_renewed (hs : s.cc.seeded = true) (h : renewIf (passesEnd s.cc 8) s.cc = some v) :
    execCcNext64 s = .next { s with
      cc := { v with cur := v.cur + 8#7 }, outLo := bufWord v v.cur.toNat, outHi := bufWord v (v.cur.toNat + 4)
      busy := false } := by
  simp [execCcNext64, hs, h, State.setCc, State.setOut, State.complete]

end

/-- Settles O38: the buffer is renewed where the four bytes would pass its end, and the word is read at the cursor. -/
theorem ccNext32Slice : Obligations.CcNext32Slice := by
  unfold Obligations.CcNext32Slice
  refine ⟨by decide, fun s => ⟨execCcNext32_of_unseeded, fun hs hfit => ?_, fun hs hend hreg => ?_, fun hs hend v hreg => ?_⟩⟩
  · rw [exec_ccNext32, execCcNext32_of_renewed hs (renewIf_passesEnd_of_fits hfit), bufWord_of_le hfit]
  · exact execCcNext32_of_exhausted hs (renewIf_passesEnd_eq_none hend hreg)
  · rw [exec_ccNext32, execCcNext32_of_renewed hs (renewIf_passesEnd_eq_some hend hreg), bufWord_of_le (by simp)]
    rfl

/-- Settles O39: as CC_NEXT32, with the renewal's test for eight bytes and two words read at the cursor. -/
theorem ccNext64Slice : Obligations.CcNext64Slice := by
  unfold Obligations.CcNext64Slice
  refine ⟨by decide, fun s => ⟨execCcNext64_of_unseeded, fun hs hfit => ?_, fun hs hend hreg => ?_, fun hs hend v hreg => ?_⟩⟩
  · rw [exec_ccNext64, execCcNext64_of_renewed hs (renewIf_passesEnd_of_fits hfit), bufWord_of_le (by omega),
      bufWord_of_le (by omega)]
  · exact execCcNext64_of_exhausted hs (renewIf_passesEnd_eq_none hend hreg)
  · rw [exec_ccNext64, execCcNext64_of_renewed hs (renewIf_passesEnd_eq_some hend hreg), bufWord_of_le (by simp),
      bufWord_of_le (by simp)]
    rfl

/-! ### CC_NEXT64 as two CC_NEXT32 -/

/-- With eight bytes left, or none and a block to come, the renewals of the two commands are the same, and leave eight bytes. -/
theorem renewIf_passesEnd_four_eight {u : Chacha} (h : u.cur.toNat ≤ 56 ∨ (u.cur = 64#7 ∧ regenerate u ≠ none)) :
    ∃ v, renewIf (passesEnd u 4) u = some v ∧ renewIf (passesEnd u 8) u = some v ∧ v.cur.toNat + 8 ≤ 64 := by
  obtain hfit | ⟨hcur, hreg⟩ := h
  · exact ⟨u, renewIf_passesEnd_of_fits (by omega), renewIf_passesEnd_of_fits (by omega), by omega⟩
  · obtain ⟨w, hw⟩ := Option.ne_none_iff_exists'.mp hreg
    have hend {n : Nat} (hn : 0 < n) : 64 < u.cur.toNat + n := by simpa [hcur] using hn
    exact ⟨_, renewIf_passesEnd_eq_some (hend (by decide)) hw, renewIf_passesEnd_eq_some (hend (by decide)) hw, by simp⟩

/-- Settles O42: both commands read the same renewed buffer, and after the first CC_NEXT32 the second needs no renewal. -/
theorem ccNext64IsTwoNext32 : Obligations.CcNext64IsTwoNext32 := by
  unfold Obligations.CcNext64IsTwoNext32
  intro s hs hcur
  obtain ⟨v, hfour, height, hfit⟩ := renewIf_passesEnd_four_eight hcur
  have hv : v.seeded = true := (renewIf_keeps hfour).2.trans hs
  have hcur4 : (v.cur + 4#7).toNat = v.cur.toNat + 4 := by simp; omega
  have hfour' : ({ v with cur := v.cur + 4#7 } : Chacha).cur.toNat + 4 ≤ 64 := by rw [hcur4]; omega
  refine ⟨_, _, _, execCcNext32_of_renewed hs hfour, execCcNext32_of_renewed hv (renewIf_passesEnd_of_fits hfour'),
    execCcNext64_of_renewed hs height, rfl, ?_, ?_⟩
  · exact congrArg (bufWord v) hcur4.symm
  · simp [BitVec.add_assoc]

end Sys2Proof.Machine
end

section
/-! CC_FILL in closed form (40_chacha.md rules R108, R114): the byte loop over the unread bytes and over the end of the buffer, and two
fills as one. -/

namespace Sys2Proof.Machine

/-! ### The unread bytes -/

/-- The unit with the cursor `n` bytes further. -/
def Chacha.advance (u : Chacha) (n : Nat) : Chacha := { u with cur := BitVec.ofNat 7 (u.cur.toNat + n) }

/-- The `n` bytes of the buffer from the cursor on. -/
def Chacha.unread (u : Chacha) (n : Nat) : List Byte := (u.buf.toList.drop u.cur.toNat).take n

@[simp] theorem Chacha.advance_zero (u : Chacha) : u.advance 0 = u := by
  simp [Chacha.advance]

@[simp] theorem Chacha.unread_zero (u : Chacha) : u.unread 0 = [] := List.take_zero

/-- A byte taken at the cursor is the first of the unread bytes, and the others are unread after it. -/
theorem Chacha.advance_unread_succ {u : Chacha} {n : Nat} (h : u.cur.toNat + (n + 1) ≤ 64) :
    ({ u with cur := u.cur + 1#7 } : Chacha).advance n = u.advance (n + 1) ∧
      u.unread (n + 1) = bufByte u u.cur.toNat :: ({ u with cur := u.cur + 1#7 } : Chacha).unread n := by
  have hcur : (u.cur + 1#7).toNat = u.cur.toNat + 1 := by simp; omega
  have hlt : u.cur.toNat < u.buf.toList.length := by simp; omega
  constructor
  · simp only [Chacha.advance, hcur, Nat.add_assoc, Nat.add_comm]
  · rw [bufByte_of_lt (by omega)]
    simp only [Chacha.unread, hcur, List.drop_eq_getElem_cons hlt, List.take_succ_cons, Vector.getElem_toList]

theorem Chacha.length_unread {u : Chacha} {n : Nat} (h : u.cur.toNat + n ≤ 64) : (u.unread n).length = n := by
  simp [Chacha.unread]
  omega

theorem Chacha.getD_unread (u : Chacha) (n i : Nat) :
    (u.unread n).getD i 0#8 = if i < n then u.buf.toList.getD (u.cur.toNat + i) 0#8 else 0#8 := by
  simp only [Chacha.unread, List.getD_eq_getElem?_getD, List.getElem?_take, List.getElem?_drop]
  split <;> rfl

theorem regenerate_advance (u : Chacha) (n : Nat) : regenerate (u.advance n) = (regenerate u).map (·.advance n) := by
  unfold regenerate Chacha.advance
  split <;> rfl

/-! ### The byte loop -/

/-- The loop takes the unread bytes it has room for, and goes on behind them. -/
theorem fillLoop_add_of_fits {n : Nat} {u : Chacha} (m : Nat) (h : u.cur.toNat + n ≤ 64) :
    fillLoop (n + m) u =
      ((fillLoop m (u.advance n)).1, (fillLoop m (u.advance n)).2.map fun rest => u.unread n ++ rest) := by
  induction n generalizing u with
  | zero => simp
  | succ n ih =>
    have hrenew : renewIf (decide (u.cur = 64#7)) u = some u := by
      rw [decide_cur_eq_passesEnd_one (by omega)]
      exact renewIf_passesEnd_of_fits (by omega)
    have hcur : (u.cur + 1#7).toNat + n ≤ 64 := by simp; omega
    obtain ⟨hadvance, hunread⟩ := Chacha.advance_unread_succ h
    rw [Nat.succ_add, fillLoop_succ_of_some hrenew, ih hcur, hadvance, hunread, Option.map_map]
    rfl

theorem fillLoop_of_fits {n : Nat} {u : Chacha} (h : u.cur.toNat + n ≤ 64) :
    fillLoop n u = (u.advance n, some (u.unread n)) := by
  simpa using fillLoop_add_of_fits 0 h

/-- With an empty buffer the loop needs a block first. -/
theorem fillLoop_of_empty_exhausted {n : Nat} {u : Chacha} (hn : 0 < n) (hcur : u.cur = 64#7) (hreg : regenerate u = none) :
    fillLoop n u = (u, none) := by
  obtain ⟨n, rfl⟩ := Nat.exists_eq_add_one_of_ne_zero hn.ne'
  exact fillLoop_succ_of_none (by simp [renewIf, hcur, hreg])

theorem fillLoop_of_empty_renewed {n : Nat} {u v : Chacha} (hn : 0 < n) (hcur : u.cur = 64#7) (hreg : regenerate u = some v) :
    fillLoop n u = fillLoop n { v with cur := 0#7 } := by
  obtain ⟨n, rfl⟩ := Nat.exists_eq_add_one_of_ne_zero hn.ne'
  rw [fillLoop_succ_of_some (v := { v with cur := 0#7 }) (by simp [renewIf, hcur, hreg]), fillLoop_succ_of_some rfl]

/-- Where the unread bytes do not suffice and no block is left, they are consumed and the cursor is 64. -/
theorem fillLoop_of_exhausted {n : Nat} {u : Chacha} (hcur : u.cur.toNat ≤ 64) (h : 64 < u.cur.toNat + n)
    (hreg : regenerate u = none) : fillLoop n u = ({ u with cur := 64#7 }, none) := by
  obtain ⟨m, rfl⟩ := Nat.exists_eq_add_of_le (show 64 - u.cur.toNat ≤ n by omega)
  have hempty : u.advance (64 - u.cur.toNat) = { u with cur := 64#7 } := by
    simp [Chacha.advance, Nat.add_sub_cancel' hcur]
  have hreg' : regenerate (u.advance (64 - u.cur.toNat)) = none := by rw [regenerate_advance, hreg, Option.map_none]
  rw [fillLoop_add_of_fits m (by omega), fillLoop_of_empty_exhausted (by omega) (by rw [hempty]) hreg', hempty]
  rfl

/-- Where the unread bytes do not suffice, the rest is the start of the next block. -/
theorem fillLoop_of_renewed {n : Nat} {u v : Chacha} (hcur : u.cur.toNat ≤ 64) (h : 64 < u.cur.toNat + n) (hn : n ≤ 64)
    (hreg : regenerate u = some v) :
    fillLoop n u = ({ v with cur := BitVec.ofNat 7 (u.cur.toNat + n - 64) },
      some (u.unread (64 - u.cur.toNat) ++ ({ v with cur := 0#7 } : Chacha).unread (u.cur.toNat + n - 64))) := by
  obtain ⟨m, rfl⟩ := Nat.exists_eq_add_of_le (show 64 - u.cur.toNat ≤ n by omega)
  have hempty : (u.advance (64 - u.cur.toNat)).cur = 64#7 := by simp [Chacha.advance, Nat.add_sub_cancel' hcur]
  have hm : u.cur.toNat + (64 - u.cur.toNat + m) - 64 = m := by omega
  rw [fillLoop_add_of_fits m (by omega),
    fillLoop_of_empty_renewed (by omega) hempty (by rw [regenerate_advance, hreg, Option.map_some]), hm,
    fillLoop_of_fits (by simp; omega)]
  simp [Chacha.advance, Chacha.unread]

/-! ### CC_FILL -/

section
variable {s : State} {len : BitVec 8} {u : Chacha} {bytes : List Byte}

theorem execCcFill_of_unseeded (hlen : len.toNat ≤ 64) (hs : s.cc.seeded = false) :
    execCcFill len s = .next (s.raiseFault .unseeded 0#32) := by
  simp [execCcFill, (lenOk_iff len).mpr hlen, hs]

theorem execCcFill_of_exhausted (hlen : len.toNat ≤ 64) (hs : s.cc.seeded = true) (h : fillLoop len.toNat s.cc = (u, none)) :
    execCcFill len s = .next ((s.setCc u).raiseFault .ccExhausted 0#32) := by
  simp [execCcFill, (lenOk_iff len).mpr hlen, hs, h]

theorem execCcFill_of_filled (hlen : len.toNat ≤ 64) (hs : s.cc.seeded = true)
    (h : fillLoop len.toNat s.cc = (u, some bytes)) :
    execCcFill len s = .next { s with cc := u, outbuf := padded bytes, busy := false } := by
  simp [execCcFill, (lenOk_iff len).mpr hlen, hs, h, State.setCc, State.setOutbuf, State.complete]

/-- A CC_FILL that latches no fault is one whose byte loop gave its bytes. -/
theorem execCcFill_completed {t : State} (h : execCcFill len s = .next t) (ht : t.fault = false) :
    s.cc.seeded = true ∧ ∃ bytes, fillLoop len.toNat s.cc = (t.cc, some bytes) ∧ t.outbuf = padded bytes := by
  unfold execCcFill at h
  split at h
  · split at h
    · next hs =>
      split at h <;> cases h
      · cases ht
      · next u bytes hu => exact ⟨hs, bytes, hu, rfl⟩
    · cases h
      cases ht
  · cases h
    cases ht

end

theorem getElem_padded (bytes : List Byte) {i : Nat} (hi : i < 64) : (padded bytes)[i] = bytes.getD i 0#8 := by
  simp [padded]

/-- Settles O40: the byte loop takes the unread bytes, and from the next block what they leave. -/
theorem ccFillBytes : Obligations.CcFillBytes := by
  unfold Obligations.CcFillBytes
  refine ⟨by decide, fun s len hlen hcur => ⟨execCcFill_of_unseeded hlen, fun hs hfit => ?_, fun hs hend hreg => ?_,
    fun hs hend v hreg => ?_⟩⟩
  · refine ⟨_, execCcFill_of_filled hlen hs (fillLoop_of_fits hfit), fun i => ?_⟩
    rw [Fin.getElem_fin, getElem_padded, Chacha.getD_unread]
  · exact execCcFill_of_exhausted hlen hs (fillLoop_of_exhausted hcur hend hreg)
  · refine ⟨_, execCcFill_of_filled hlen hs (fillLoop_of_renewed hcur hend hlen hreg), fun i => ?_⟩
    have hlength : (s.cc.unread (64 - s.cc.cur.toNat)).length = 64 - s.cc.cur.toNat := Chacha.length_unread (by omega)
    rw [Fin.getElem_fin, getElem_padded]
    by_cases hi : i.val < 64 - s.cc.cur.toNat
    · rw [List.getD_append _ _ _ _ (by omega), Chacha.getD_unread, if_pos hi, if_pos hi]
    · rw [List.getD_append_right _ _ _ _ (by omega), Chacha.getD_unread, if_neg hi, hlength]
      have hindex : i.val - (64 - s.cc.cur.toNat) = s.cc.cur.toNat + i.val - 64 := by omega
      have hbound : s.cc.cur.toNat + i.val - 64 < s.cc.cur.toNat + len.toNat - 64 ↔ i.val < len.toNat := by omega
      simp [hindex, hbound]

/-- Settles O41: the byte loops of the two fills, one after the other, are the byte loop of the long one. -/
theorem ccFillsAreContiguous : Obligations.CcFillsAreContiguous := by
  unfold Obligations.CcFillsAreContiguous
  intro s t u a b hab hs0 hfirst ht hsecond hu
  obtain ⟨hs, l, hl, htout⟩ := execCcFill_completed hfirst ht
  obtain ⟨-, m, hm, huout⟩ := execCcFill_completed hsecond hu
  have hlen : (a + b).toNat = a.toNat + b.toNat := by rw [BitVec.toNat_add]; omega
  have hloop : fillLoop (a + b).toNat s.cc = (u.cc, some (l ++ m)) := hlen ▸ fillLoop_append hl hm
  refine ⟨_, execCcFill_of_filled (by omega) hs hloop, hs0, rfl, rfl, fun i => ?_⟩
  simp only [htout, huout, Fin.getElem_fin, getElem_padded]
  by_cases hfst : i.val < a.toNat
  · rw [if_pos hfst, List.getD_append _ _ _ _ (by rwa [fillLoop_length hl])]
  · rw [if_neg hfst, List.getD_append_right _ _ _ _ (by rw [fillLoop_length hl]; omega), fillLoop_length hl]
    split
    · rfl
    · rw [List.getD_eq_default _ _ (by rw [fillLoop_length hm]; omega)]

end Sys2Proof.Machine
end

section
/-! The units do not interfere (40_chacha.md rule R115, 41_xoshiro.md rule R152, 42_pcg.md rule R168, 43_entropy.md rule R180): exec
commutes with the replacement of a unit outside the command's row. -/

namespace Sys2Proof.Machine

/-! ### The replacement of a unit -/

/-- A state of one of the five units. -/
inductive UnitState where
  | cc (u : Chacha)
  | xo (u : Xoshiro)
  | pcg (u : Pcg)
  | sm (u : SplitMix)
  | ent (u : Ent)

/-- Which unit it is a state of. -/
def UnitState.part : UnitState → Part
  | .cc _ => .cc
  | .xo _ => .xo
  | .pcg _ => .pcg
  | .sm _ => .sm
  | .ent _ => .ent

/-- The machine with that unit's state replaced. -/
def UnitState.put : UnitState → State → State
  | .cc u, s => s.setCc u
  | .xo u, s => s.setXo u
  | .pcg u, s => s.setPcg u
  | .sm u, s => s.setSm u
  | .ent u, s => s.setEnt u

section
variable (x : UnitState) (s : State)

@[simp] theorem put_seqSnap : (x.put s).seqSnap = s.seqSnap := by cases x <;> rfl
@[simp] theorem put_port : (x.put s).port = s.port := by cases x <;> rfl
@[simp] theorem put_complete : (x.put s).complete = x.put s.complete := by cases x <;> rfl
@[simp] theorem put_raiseFault (c : Cause) (n : Word) : (x.put s).raiseFault c n = x.put (s.raiseFault c n) := by
  cases x <;> rfl
@[simp] theorem put_setOut (v : DWord) : (x.put s).setOut v = x.put (s.setOut v) := by cases x <;> rfl
@[simp] theorem put_setOutbuf (l : List Byte) : (x.put s).setOutbuf l = x.put (s.setOutbuf l) := by cases x <;> rfl
@[simp] theorem put_setPort (p : Option Answer) : (x.put s).setPort p = x.put (s.setPort p) := by cases x <;> rfl

end

section
variable {x : UnitState}

/-- The replacement of another unit than the ChaCha unit leaves that one as it is, and commutes with its update. -/
theorem put_cc (h : x.part ≠ .cc) (s : State) :
    (x.put s).cc = s.cc ∧ ∀ u, (x.put s).setCc u = x.put (s.setCc u) := by
  cases x with
  | cc => exact absurd rfl h
  | xo | pcg | sm | ent => exact ⟨rfl, fun _ => rfl⟩

theorem put_xo (h : x.part ≠ .xo) (s : State) :
    (x.put s).xo = s.xo ∧ ∀ u, (x.put s).setXo u = x.put (s.setXo u) := by
  cases x with
  | xo => exact absurd rfl h
  | cc | pcg | sm | ent => exact ⟨rfl, fun _ => rfl⟩

theorem put_pcg (h : x.part ≠ .pcg) (s : State) :
    (x.put s).pcg = s.pcg ∧ ∀ u, (x.put s).setPcg u = x.put (s.setPcg u) := by
  cases x with
  | pcg => exact absurd rfl h
  | cc | xo | sm | ent => exact ⟨rfl, fun _ => rfl⟩

theorem put_sm (h : x.part ≠ .sm) (s : State) :
    (x.put s).sm = s.sm ∧ ∀ u, (x.put s).setSm u = x.put (s.setSm u) := by
  cases x with
  | sm => exact absurd rfl h
  | cc | xo | pcg | ent => exact ⟨rfl, fun _ => rfl⟩

theorem put_ent (h : x.part ≠ .ent) (s : State) :
    (x.put s).ent = s.ent ∧ ∀ u, (x.put s).setEnt u = x.put (s.setEnt u) := by
  cases x with
  | ent => exact absurd rfl h
  | cc | xo | pcg | sm => exact ⟨rfl, fun _ => rfl⟩

end

/-! ### Every command -/

/-- `o` is a next state, and `o'` is the same one but for the replaced unit. -/
def SameBut (x : UnitState) (o o' : Host.Outcome State Fault Refusal) : Prop :=
  ∃ t, o = .next t ∧ o' = .next (x.put t)

@[simp] theorem sameBut_next (x : UnitState) (t : State) : SameBut x (.next t) (.next (x.put t)) := ⟨t, rfl, rfl⟩

section
variable {x : UnitState}

theorem fillFinish_put (h : x.part ≠ .ent) (len : BitVec 8) (s : State) :
    fillFinish len (x.put s) = x.put (fillFinish len s) := by
  dsimp only [fillFinish]
  rw [(put_ent h s).1]
  split
  · simp
  · split <;> simp [put_ent h]

theorem fillAfterByte_put (h : x.part ≠ .ent) (len : BitVec 8) (s : State) :
    fillAfterByte len (x.put s) = x.put (fillAfterByte len s) := by
  simp only [fillAfterByte, put_ent h, fillFinish_put h, put_raiseFault, apply_ite x.put]

theorem sameBut_execEntFill (h : x.part ≠ .ent) (len : BitVec 8) (s : State) :
    SameBut x (execEntFill len s) (execEntFill len (x.put s)) := by
  simp only [execEntFill, put_ent h, put_port, put_setPort, put_raiseFault, fillAfterByte_put h]
  split
  · split <;> exact sameBut_next x _
  · exact sameBut_next x _

/-- Each command branches on the units of its row, the snapshot and the port alone. -/
theorem sameBut_exec {i : Instr} (h : x.part ∉ writesOf i) (s : State) : SameBut x (exec i s) (exec i (x.put s)) := by
  cases i with
  | nop => simp [execNop]
  | ccLoad rnd =>
    have hcc := put_cc (List.ne_of_not_mem_cons h)
    simp only [exec_ccLoad, execCcLoad, put_seqSnap, hcc, put_raiseFault, put_complete]
    split <;> exact sameBut_next x _
  | ccNext32 | ccNext64 =>
    have hcc := put_cc (List.ne_of_not_mem_cons h)
    simp only [exec_ccNext32, exec_ccNext64, execCcNext32, execCcNext64, hcc, put_raiseFault, put_setOut, put_complete]
    split
    · split <;> exact sameBut_next x _
    · exact sameBut_next x _
  | ccFill len =>
    have hcc := put_cc (List.ne_of_not_mem_cons h)
    simp only [exec_ccFill, execCcFill, hcc, put_raiseFault, put_setOutbuf, put_complete]
    split
    · split
      · split <;> exact sameBut_next x _
      · exact sameBut_next x _
    · exact sameBut_next x _
  | xoLoad | xoNext32 | xoNext64 =>
    have hxo := put_xo (List.ne_of_not_mem_cons h)
    simp only [exec_xoLoad, exec_xoNext32, exec_xoNext64, execXoLoad, execXoNext32, execXoNext64, put_seqSnap, hxo,
      put_raiseFault, put_setOut, put_complete]
    split <;> exact sameBut_next x _
  | xoSeed64 =>
    have hxo := put_xo (List.ne_of_not_mem_cons h)
    simp [execXoSeed64, hxo]
  | pcgLoad =>
    have hpcg := put_pcg (List.ne_of_not_mem_cons h)
    simp [execPcgLoad, hpcg]
  | pcgNext32 | pcgNext64 =>
    have hpcg := put_pcg (List.ne_of_not_mem_cons h)
    simp only [exec_pcgNext32, exec_pcgNext64, execPcgNext32, execPcgNext64, hpcg, put_raiseFault, put_setOut, put_complete]
    split <;> exact sameBut_next x _
  | smLoad =>
    have hsm := put_sm (List.ne_of_not_mem_cons h)
    simp [execSmLoad, hsm]
  | smNext64 =>
    have hsm := put_sm (List.ne_of_not_mem_cons h)
    simp only [exec_smNext64, execSmNext64, hsm, put_raiseFault, put_setOut, put_complete]
    split <;> exact sameBut_next x _
  | entFill len => exact sameBut_execEntFill (List.ne_of_not_mem_cons h) len s

end

/-- Every row leaves out the xoshiro unit or the ChaCha unit. -/
theorem xo_or_cc_not_mem_writesOf (i : Instr) : Part.xo ∉ writesOf i ∨ Part.cc ∉ writesOf i := by
  cases i <;> simp [writesOf]

/-- Every command answers a next state. -/
theorem exec_answers_next (i : Instr) (s : State) : ∃ t, exec i s = .next t := by
  obtain h | h := xo_or_cc_not_mem_writesOf i
  · obtain ⟨t, ht, -⟩ := sameBut_exec (x := .xo s.xo) h s
    exact ⟨t, ht⟩
  · obtain ⟨t, ht, -⟩ := sameBut_exec (x := .cc s.cc) h s
    exact ⟨t, ht⟩

/-- Settles O32: exec commutes with the replacement of each unit outside the row. -/
theorem unitsDoNotInterfere : Obligations.UnitsDoNotInterfere := by
  unfold Obligations.UnitsDoNotInterfere
  intro i s
  obtain ⟨t, ht⟩ := exec_answers_next i s
  have hput {x : UnitState} (h : x.part ∉ writesOf i) : exec i (x.put s) = .next (x.put t) := by
    obtain ⟨t', ht', hx⟩ := sameBut_exec h s
    cases ht.symm.trans ht'
    exact hx
  exact ⟨t, ht, fun h u => hput (x := .cc u) h, fun h u => hput (x := .xo u) h, fun h u => hput (x := .pcg u) h,
    fun h u => hput (x := .sm u) h, fun h u => hput (x := .ent u) h⟩

end Sys2Proof.Machine
end

section
/-! The xoshiro256++ generator and the SplitMix64 expander (41_xoshiro.md): their functions are invertible, the rules' equations for them,
and what each of their six commands answers. -/

namespace Sys2Proof.Machine

/-! ### Invertible functions -/

theorem finite_dword : Finite DWord := .of_equiv _ BitVec.equivFin.symm.toEquiv

/-- Settles O47: an injective function of the finitely many 64-bit words is a bijection. -/
theorem generatorFunctionsInvertible : Obligations.GeneratorFunctionsInvertible := by
  unfold Obligations.GeneratorFunctionsInvertible
  have := finite_dword
  exact ⟨Finite.injective_iff_bijective.mp smMix_injective, xoTransition_injective⟩

/-! ### The SplitMix64 step -/

/-- Settles O44: the model's sum and products are the rule's, with the constant first. -/
theorem splitMixStep : Obligations.SplitMixStep := by
  unfold Obligations.SplitMixStep
  refine fun st => ⟨BitVec.add_comm .., ?_⟩
  simp only [smMix, Config.smMul1, Config.smMul2, BitVec.mul_comm]

/-! ### The output and the transition of xoshiro256++ -/

/-- 41_xoshiro.md rule R140. -/
theorem xoOut_eq (u : Xoshiro) : xoOut u = (u.s0 + u.s3).rotateLeft 23 + u.s0 := by
  rw [xoOut, rotl64_eq_rotateLeft _ (by decide)]

/-- 41_xoshiro.md rule R141, each word from the words before the transition. -/
theorem xoTransition_eq (u : Xoshiro) : xoTransition u = {
    s0 := u.s0 ^^^ (u.s3 ^^^ u.s1), s1 := u.s1 ^^^ (u.s2 ^^^ u.s0), s2 := (u.s2 ^^^ u.s0) ^^^ (u.s1 <<< 17)
    s3 := (u.s3 ^^^ u.s1).rotateLeft 45, seeded := u.seeded } := by
  rw [← rotl64_eq_rotateLeft _ (by decide)]
  rfl

/-! ### The operands -/

theorem le64_eq_zero_iff (lo hi : Word) : le64 lo hi = 0#64 ↔ lo = 0#32 ∧ hi = 0#32 := by
  constructor
  · intro h
    exact ⟨by rw [← lo32_le64 lo hi, h]; rfl, by rw [← hi32_le64 lo hi, h]; rfl⟩
  · rintro ⟨rfl, rfl⟩
    decide

/-- The four operands of XO_LOAD are 0 exactly when the eight snapshot words they are made of are (41_xoshiro.md rule R145). -/
theorem snap64_all_zero_iff (snap : Vector Word 10) :
    (snap64 snap 0 (by decide) = 0#64 ∧ snap64 snap 2 (by decide) = 0#64 ∧ snap64 snap 4 (by decide) = 0#64 ∧
      snap64 snap 6 (by decide) = 0#64) ↔ ∀ i : Fin 8, snap[i.val] = 0#32 := by
  simp [snap64, le64_eq_zero_iff, Fin.forall_fin_succ, and_assoc]

/-! ### The commands -/

section
variable {s : State}

theorem execXoLoad_of_zero (h : ∀ i : Fin 8, s.seqSnap[i.val] = 0#32) : execXoLoad s = .next (s.raiseFault .xoZeroSeed 0#32) :=
  if_pos ((snap64_all_zero_iff _).mpr h)

/-- XO_LOAD of a snapshot that is not all zero. -/
theorem execXoLoad_of_nonzero (h : ¬∀ i : Fin 8, s.seqSnap[i.val] = 0#32) : execXoLoad s = .next { s with
    xo := { s0 := snap64 s.seqSnap 0 (by decide), s1 := snap64 s.seqSnap 2 (by decide), s2 := snap64 s.seqSnap 4 (by decide)
            s3 := snap64 s.seqSnap 6 (by decide), seeded := true }
    busy := false } :=
  if_neg (mt (snap64_all_zero_iff _).mp h)

theorem execXoNext64_of_unseeded (hs : s.xo.seeded = false) : execXoNext64 s = .next (s.raiseFault .unseeded 1#32) := by
  simp [execXoNext64, hs]

theorem execXoNext32_of_unseeded (hs : s.xo.seeded = false) : execXoNext32 s = .next (s.raiseFault .unseeded 1#32) := by
  simp [execXoNext32, hs]

theorem execXoNext64_of_seeded (hs : s.xo.seeded = true) : execXoNext64 s = .next { s with
    xo := xoTransition s.xo, outLo := lo32 (xoOut s.xo), outHi := hi32 (xoOut s.xo), busy := false } := by
  simp [execXoNext64, hs, State.setXo, State.setOut, State.complete]

theorem execXoNext32_of_seeded (hs : s.xo.seeded = true) : execXoNext32 s = .next { s with
    xo := xoTransition s.xo, outLo := lo32 (xoOut s.xo), outHi := 0#32, busy := false } := by
  simp [execXoNext32, hs, State.setXo, State.setOut, State.complete]

theorem execSmNext64_of_unseeded (hs : s.sm.seeded = false) : execSmNext64 s = .next (s.raiseFault .unseeded 3#32) := by
  simp [execSmNext64, hs]

theorem execSmNext64_of_seeded (hs : s.sm.seeded = true) : execSmNext64 s = .next { s with
    sm := { state := smAdvance s.sm.state, seeded := true }, outLo := lo32 (smMix (smAdvance s.sm.state))
    outHi := hi32 (smMix (smAdvance s.sm.state)), busy := false } := by
  simp [execSmNext64, hs, State.setSm, State.setOut, State.complete]

end

/-- Settles O43: the four operands are all zero exactly where the eight words are, and are else the new state. -/
theorem xoLoadSeeds : Obligations.XoLoadSeeds := by
  unfold Obligations.XoLoadSeeds
  exact ⟨by decide, fun s => ⟨execXoLoad_of_zero, execXoLoad_of_nonzero⟩⟩

/-- Settles O45: the command's four steps from the seed are the iterates of SplitMix64's addition. -/
theorem xoSeed64Expands : Obligations.XoSeed64Expands := by
  unfold Obligations.XoSeed64Expands
  exact ⟨by decide, fun _ => rfl⟩

/-- Settles O46: both commands make the transition of `xoTransition_eq` and write the output of `xoOut_eq`. -/
theorem xoNextOutputs : Obligations.XoNextOutputs := by
  unfold Obligations.XoNextOutputs
  refine ⟨by decide, by decide, fun s => ⟨fun hs => ?_, fun hs => ⟨execXoNext64_of_unseeded hs, execXoNext32_of_unseeded hs⟩⟩⟩
  rw [exec_xoNext64, exec_xoNext32, execXoNext64_of_seeded hs, execXoNext32_of_seeded hs, xoTransition_eq, xoOut_eq, hs]
  exact ⟨rfl, rfl⟩

/-- Settles O48: SM_LOAD completes in every state, and SM_NEXT64 makes the step where the unit is seeded. -/
theorem smCommands : Obligations.SmCommands := by
  unfold Obligations.SmCommands
  exact ⟨by decide, by decide, fun s => ⟨rfl, execSmNext64_of_seeded, execSmNext64_of_unseeded⟩⟩

end Sys2Proof.Machine
end

section
/-! The PCG-128 generator (42_pcg.md): the rules' equations for its step, its output and its construction, and what each of its three
commands answers. -/

namespace Sys2Proof.Machine

/-! ### The step, the output and the construction -/

/-- 42_pcg.md rule R161, with the factors in the rule's order. -/
theorem pcgStep_eq (u : Pcg) : pcgStep u = { u with state := u.state * Config.pcgMul + u.inc } := by
  rw [pcgStep, BitVec.mul_comm]

theorem rotr64_eq_rotateRight (a : DWord) {k : Nat} (hk : k < 64) : rotr64 a k = a.rotateRight k := by
  unfold rotr64
  rw [BitVec.rotateRight_def, Nat.mod_eq_of_lt hk]
  split
  · next h => simp [h, BitVec.shiftLeft_eq_zero]
  · rfl

/-- Settles O49: the top 6 bits are an amount below 64, where the model's rotation is the library's. -/
theorem pcgOutputRotates : Obligations.PcgOutputRotates := by
  unfold Obligations.PcgOutputRotates
  exact fun st => rotr64_eq_rotateRight _ (st.extractLsb' 122 6).isLt

/-- The construction sequence of 42_pcg.md rule R165: the step from 0 leaves the increment, the seed is added, and the step is made
again. -/
theorem pcgStep_add_seed_pcgStep_zero (inc seed : QWord) (b : Bool) :
    pcgStep { pcgStep ⟨0#128, inc, b⟩ with state := (pcgStep ⟨0#128, inc, b⟩).state + seed } =
      ⟨(inc + seed) * Config.pcgMul + inc, inc, b⟩ := by
  simp only [pcgStep_eq, BitVec.zero_mul, BitVec.zero_add]

/-! ### The commands -/

/-- The unit after PCG_LOAD, a function of the snapshot only (42_pcg.md rules R165, R168). -/
def pcgLoaded (snap : Vector Word 10) : Pcg :=
  let inc := (pcgStreamOperand snap <<< 1) ||| 1#128
  { state := (inc + pcgSeedOperand snap) * Config.pcgMul + inc, inc := inc, seeded := true }

section
variable (s : State)

theorem execPcgLoad_eq : execPcgLoad s = .next { s with pcg := pcgLoaded s.seqSnap, busy := false } := by
  simp only [execPcgLoad, pcgStep_add_seed_pcgStep_zero, State.setPcg, State.complete, pcgLoaded]

variable {s}

theorem execPcgNext64_of_unseeded (hs : s.pcg.seeded = false) : execPcgNext64 s = .next (s.raiseFault .unseeded 2#32) := by
  simp [execPcgNext64, hs]

theorem execPcgNext32_of_unseeded (hs : s.pcg.seeded = false) : execPcgNext32 s = .next (s.raiseFault .unseeded 2#32) := by
  simp [execPcgNext32, hs]

theorem execPcgNext64_of_seeded (hs : s.pcg.seeded = true) : execPcgNext64 s = .next { s with
    pcg := pcgStep s.pcg, outLo := lo32 (pcgOut (pcgStep s.pcg).state), outHi := hi32 (pcgOut (pcgStep s.pcg).state)
    busy := false } := by
  simp only [execPcgNext64, hs, if_true, State.setPcg, State.setOut, State.complete]

theorem execPcgNext32_of_seeded (hs : s.pcg.seeded = true) : execPcgNext32 s = .next { s with
    pcg := pcgStep s.pcg, outLo := lo32 (pcgOut (pcgStep s.pcg).state), outHi := 0#32, busy := false } := by
  simp only [execPcgNext32, hs, if_true, State.setPcg, State.setOut, State.complete, lo32_le64, hi32_le64]

end

/-- Settles O50: the loaded unit is `pcgLoaded` of the snapshot, so equal snapshots load equal units. -/
theorem pcgLoadConstructs : Obligations.PcgLoadConstructs := by
  unfold Obligations.PcgLoadConstructs
  refine ⟨by decide, execPcgLoad_eq, fun s s' t t' hsnap h h' => ?_⟩
  rw [exec_pcgLoad, execPcgLoad_eq] at h h'
  cases h
  cases h'
  exact congrArg pcgLoaded hsnap

/-- Settles O51: both commands make the step of `pcgStep_eq` and write the output of the state after it. -/
theorem pcgNextOutputs : Obligations.PcgNextOutputs := by
  unfold Obligations.PcgNextOutputs
  refine ⟨by decide, by decide, fun s => ⟨fun hs => ?_, fun hs => ⟨execPcgNext64_of_unseeded hs, execPcgNext32_of_unseeded hs⟩⟩⟩
  rw [exec_pcgNext64, exec_pcgNext32, execPcgNext64_of_seeded hs, execPcgNext32_of_seeded hs, pcgStep_eq]
  exact ⟨rfl, rfl⟩

end Sys2Proof.Machine
end

section
/-! ProbeInData and the two continuous tests (43_entropy.md rules R184, R185, R186): what one byte does to the testers, and what a stream
that passes them is like. -/

namespace Sys2Proof.Machine

/-! ### ProbeInData -/

/-- The 8 probe bytes stand in the data from offset `j` on (43_entropy.md rule R184). -/
def StandsAt (probe data : List Byte) (j : Nat) : Prop :=
  j + 8 ≤ data.length ∧ ∀ m : Nat, m < 8 → data[j + m]? = probe[m]?

/-- The search compares slices, and a slice is the probe exactly where it agrees with it at 8 places. -/
theorem take_drop_eq_iff_standsAt {probe data : List Byte} (hp : probe.length = 8) (j : Nat) :
    (data.drop j).take 8 = probe ↔ StandsAt probe data j := by
  constructor
  · rintro rfl
    refine ⟨by simp at hp; omega, fun m hm => ?_⟩
    rw [List.getElem?_take_of_lt hm, List.getElem?_drop]
  · rintro ⟨-, hat⟩
    refine List.ext_getElem? fun m => ?_
    rw [List.getElem?_take, List.getElem?_drop]
    split
    · next hm => exact hat m hm
    · next hm => exact (List.getElem?_eq_none (by omega)).symm

/-- Settles O52: the search goes through the offsets upwards, and an offset it leaves out has no room for 8 bytes. -/
theorem probeInDataSmallest : Obligations.ProbeInDataSmallest := by
  unfold Obligations.ProbeInDataSmallest
  intro probe data hp
  change (∀ j, _ → StandsAt probe data j ∧ ∀ j', j' < j → ¬StandsAt probe data j') ∧ (_ → ∀ j, ¬StandsAt probe data j)
  unfold probeInData Config.probeBytes
  constructor
  · intro j hj
    obtain ⟨hfound, -, hfirst⟩ := List.find?_range_eq_some.mp hj
    refine ⟨by simpa [take_drop_eq_iff_standsAt hp] using hfound, fun j' hj' => ?_⟩
    simpa [take_drop_eq_iff_standsAt hp] using hfirst j' hj'
  · intro hnone j hat
    have ⟨hroom, _⟩ := hat
    have hne := List.find?_range_eq_none.mp hnone j (by omega)
    rw [(take_drop_eq_iff_standsAt hp j).mpr hat] at hne
    simp at hne

/-! ### One byte through the tests -/

/-- The run length after the byte `x` (43_entropy.md rule R185). -/
def rctRun (r : Rct) (x : Byte) : Nat := if r.valid = true ∧ x = r.value then r.run.toNat + 1 else 1

/-- The number of matches after the byte `x` (43_entropy.md rule R186). -/
def aptCount (a : Apt) (x : Byte) : Nat :=
  if a.n = 0#9 then 0 else if x = a.value then a.count.toNat + 1 else a.count.toNat

theorem rctFails_iff (r : Rct) : rctFails r = true ↔ 4 ≤ r.run.toNat := decide_eq_true_iff

theorem aptFails_iff (a : Apt) : aptFails a = true ↔ 13 ≤ a.count.toNat := decide_eq_true_iff

section
variable (r : Rct) (a : Apt) (x : Byte)

theorem rctUpdate_eq : rctUpdate r x = { valid := true, value := x, run := BitVec.ofNat 3 (rctRun r x) } := by
  unfold rctUpdate rctRun
  by_cases h : r.valid = true ∧ x = r.value
  · obtain ⟨hvalid, rfl⟩ := h
    simp [hvalid, BitVec.ofNat_add]
  · simp [h]

theorem aptUpdate_eq : aptUpdate a x =
    { value := if a.n = 0#9 then x else a.value, count := BitVec.ofNat 4 (aptCount a x)
      n := BitVec.ofNat 9 ((a.n.toNat + 1) % 512) } := by
  have hn : a.n + 1#9 = BitVec.ofNat 9 ((a.n.toNat + 1) % 512) := BitVec.eq_of_toNat_eq (by simp)
  unfold aptUpdate aptCount
  rw [← hn]
  split
  · rfl
  · split <;> simp [BitVec.ofNat_add]

theorem one_le_rctRun : 1 ≤ rctRun r x := by
  unfold rctRun
  split <;> omega

variable {r a}

theorem rctRun_le (hr : r.run.toNat ≤ 3) : rctRun r x ≤ 4 := by
  unfold rctRun
  split <;> omega

theorem aptCount_le (ha : a.count.toNat ≤ 12) : aptCount a x ≤ 13 := by
  unfold aptCount
  split
  · omega
  · split <;> omega

/-- Below the cutoff the 3-bit counter does not overflow. -/
theorem run_rctUpdate (hr : r.run.toNat ≤ 3) : (rctUpdate r x).run.toNat = rctRun r x := by
  have hle := rctRun_le x hr
  simp only [rctUpdate_eq, BitVec.toNat_ofNat]
  omega

/-- Below the cutoff the 4-bit counter does not overflow. -/
theorem count_aptUpdate (ha : a.count.toNat ≤ 12) : (aptUpdate a x).count.toNat = aptCount a x := by
  have hle := aptCount_le x ha
  simp only [aptUpdate_eq, BitVec.toNat_ofNat]
  omega

/-- The byte of the run, once more, is one more in the run. -/
theorem rctRun_rctUpdate_same (hr : r.run.toNat ≤ 3) : rctRun (rctUpdate r x) x = rctRun r x + 1 := by
  rw [rctRun, run_rctUpdate x hr, if_pos ⟨rctUpdate_valid r x, (rctUpdate_value r x).symm⟩]

/-- The first byte of a window is its reference value and is not counted (43_entropy.md rule R186). -/
theorem aptUpdate_of_window_start (hn : a.n = 0#9) : aptUpdate a x = { value := x, count := 0#4, n := 1#9 } := by
  simp [aptUpdate, hn]

/-- One byte through the two tests (43_entropy.md rules R185, R186). -/
theorem feedTests_cons (rest : List Byte) (k : Nat) (hr : r.run.toNat ≤ 3) (ha : a.count.toNat ≤ 12) :
    feedTests (x :: rest) k r a =
      if 4 ≤ rctRun r x then (rctUpdate r x, a, some (.entRctFail, k))
      else if 13 ≤ aptCount a x then (rctUpdate r x, aptUpdate a x, some (.entAptFail, k))
      else feedTests rest (k + 1) (rctUpdate r x) (aptUpdate a x) := by
  simp only [feedTests, rctFails_iff, aptFails_iff, run_rctUpdate x hr, count_aptUpdate x ha]

end

/-- Settles O53: `feedTests_cons`, with the updates of the two testers written out. -/
theorem testsFeedOneByte : Obligations.TestsFeedOneByte := by
  unfold Obligations.TestsFeedOneByte
  intro x rest k r a hr ha
  rw [feedTests_cons x rest k hr ha, rctUpdate_eq, aptUpdate_eq]
  rfl

/-! ### Streams that pass, and the testers after any stream -/

/-- A stream that passes passes with its first byte, which leaves both counters below their cutoffs, and with the bytes after it. -/
theorem passes_of_passes_cons {x : Byte} {l : List Byte} {k : Nat} {r r' : Rct} {a a' : Apt}
    (h : feedTests (x :: l) k r a = (r', a', none)) :
    (rctUpdate r x).run.toNat ≤ 3 ∧ (aptUpdate a x).count.toNat ≤ 12 ∧
      feedTests l (k + 1) (rctUpdate r x) (aptUpdate a x) = (r', a', none) := by
  unfold feedTests at h
  split at h
  · simp at h
  · next hrct =>
    split at h
    · simp at h
    · next hapt =>
      rw [rctFails_iff] at hrct
      rw [aptFails_iff] at hapt
      exact ⟨by omega, by omega, h⟩

/-- The counters stay in their bounds through any stream, and below the cutoffs where it passes (43_entropy.md rule R189). -/
theorem feedTests_bounds {l : List Byte} {k : Nat} {r r' : Rct} {a a' : Apt} {f : Option (Cause × Nat)}
    (hr : r.run.toNat ≤ 3) (ha : a.count.toNat ≤ 12) (h : feedTests l k r a = (r', a', f)) :
    r'.run.toNat ≤ 4 ∧ a'.count.toNat ≤ 13 ∧ (f = none → r'.run.toNat ≤ 3 ∧ a'.count.toNat ≤ 12) := by
  induction l generalizing k r a with
  | nil =>
    cases h
    exact ⟨by omega, by omega, fun _ => ⟨hr, ha⟩⟩
  | cons x l ih =>
    have hrun := run_rctUpdate x hr
    have hcount := count_aptUpdate x ha
    have hrun4 := rctRun_le x hr
    have hcount13 := aptCount_le x ha
    rw [feedTests_cons x l k hr ha] at h
    split at h
    · cases h
      exact ⟨by omega, by omega, nofun⟩
    · split at h
      · cases h
        exact ⟨by omega, by omega, nofun⟩
      · exact ih (by omega) (by omega) h

/-- Four equal bytes at the start of a stream fail the Repetition Count Test at the latest with the fourth. -/
theorem not_passes_four_equal {x : Byte} {l : List Byte} {k : Nat} {r r' : Rct} {a a' : Apt} (hr : r.run.toNat ≤ 3) :
    feedTests (x :: x :: x :: x :: l) k r a ≠ (r', a', none) := by
  intro h
  obtain ⟨h1, -, h⟩ := passes_of_passes_cons h
  obtain ⟨h2, -, h⟩ := passes_of_passes_cons h
  obtain ⟨h3, -, h⟩ := passes_of_passes_cons h
  obtain ⟨h4, -, -⟩ := passes_of_passes_cons h
  rw [run_rctUpdate x h3, rctRun_rctUpdate_same x h2, rctRun_rctUpdate_same x h1, rctRun_rctUpdate_same x hr] at h4
  have hfirst := one_le_rctRun r x
  omega

/-- Settles O54, by induction on the index: a stream that passes passes from every byte on. -/
theorem passingStreamHasNoRunOfFour : Obligations.PassingStreamHasNoRunOfFour := by
  unfold Obligations.PassingStreamHasNoRunOfFour
  rintro l k r r' a a' hr - h j x ⟨h0, h1, h2, h3⟩
  induction j generalizing l k r a with
  | zero =>
    match l with
    | [] | [_] | [_, _] | [_, _, _] => simp at h3
    | b0 :: b1 :: b2 :: b3 :: l =>
      simp only [List.getElem?_cons_zero, List.getElem?_cons_succ, Option.some.injEq, Nat.zero_add] at h0 h1 h2 h3
      subst h0 h1 h2 h3
      exact not_passes_four_equal hr h
  | succ j ih =>
    match l with
    | [] => simp at h0
    | y :: l =>
      obtain ⟨hr', -, h'⟩ := passes_of_passes_cons h
      simp only [Nat.succ_add, List.getElem?_cons_succ] at h0 h1 h2 h3
      exact ih l (k + 1) _ _ hr' h' h0 h1 h2 h3

/-- In the middle of a window, bytes that do not pass its end are counted where they are the reference value. -/
theorem apt_of_passes_in_window {l : List Byte} {k : Nat} {r r' : Rct} {a a' : Apt} (hn : a.n ≠ 0#9)
    (hlen : a.n.toNat + l.length ≤ 512) (ha : a.count.toNat ≤ 12) (h : feedTests l k r a = (r', a', none)) :
    a'.value = a.value ∧ a'.count.toNat = a.count.toNat + l.count a.value ∧ a'.count.toNat ≤ 12 ∧
      a'.n.toNat = (a.n.toNat + l.length) % 512 := by
  induction l generalizing k r a with
  | nil =>
    cases h
    simp [ha, Nat.mod_eq_of_lt a'.n.isLt]
  | cons x l ih =>
    obtain ⟨-, ha', h'⟩ := passes_of_passes_cons h
    rw [List.length_cons] at hlen
    have hvalue : (aptUpdate a x).value = a.value := by rw [aptUpdate_eq, if_neg hn]
    have hcount : (aptUpdate a x).count.toNat = a.count.toNat + if x == a.value then 1 else 0 := by
      rw [count_aptUpdate x ha, aptCount, if_neg hn]
      simp only [beq_iff_eq]
      split <;> rfl
    have hn' : (aptUpdate a x).n.toNat = (a.n.toNat + 1) % 512 := by simp [aptUpdate_eq]
    by_cases hend : a.n.toNat + 1 = 512
    · obtain rfl : l = [] := List.eq_nil_of_length_eq_zero (by omega)
      cases h'
      exact ⟨hvalue, by simp [hcount, List.count_cons], ha', hn'⟩
    · have hlt : (aptUpdate a x).n.toNat = a.n.toNat + 1 := by rw [hn']; omega
      obtain ⟨hv, hc, hle, hn''⟩ := ih (fun h0 => by rw [h0] at hlt; cases hlt) (by omega) ha' h'
      refine ⟨hv.trans hvalue, ?_, hle, ?_⟩
      · rw [hc, hcount, hvalue, List.count_cons]
        omega
      · rw [hn'', hlt, List.length_cons, Nat.add_assoc, Nat.add_comm 1]

/-- Settles O55: the first byte is the reference value, and the bytes after it do not pass the window's end. -/
theorem passingWindowHasFewMatches : Obligations.PassingWindowHasFewMatches := by
  unfold Obligations.PassingWindowHasFewMatches
  intro x l k r r' a a' hn hlen h
  obtain ⟨-, ha, h'⟩ := passes_of_passes_cons h
  rw [aptUpdate_of_window_start x hn] at ha h'
  obtain ⟨hvalue, hcount, hle, hn'⟩ := apt_of_passes_in_window (by simp) (by simp; omega) ha h'
  rw [show (0#4 : BitVec 4).toNat = 0 from rfl, Nat.zero_add] at hcount
  exact ⟨hvalue, hcount, hcount ▸ hle, by rw [hn', Nat.add_comm]; rfl⟩

end Sys2Proof.Machine
end

section
/-! Every step keeps the testers' counters in their bounds (43_entropy.md rule R189). -/

namespace Sys2Proof.Machine

/-- The testers of `t` are those of `s` after a stream, and the stream passed unless `t` has a fault latched. -/
def FedFrom (s t : State) : Prop :=
  ∃ l f, feedTests l 0 s.ent.rct s.ent.apt = (t.ent.rct, t.ent.apt, f) ∧ (t.fault = false → f = none)

/-- The empty stream leaves the testers as they are. -/
theorem fedFrom_of_same {s t : State} (hrct : t.ent.rct = s.ent.rct) (hapt : t.ent.apt = s.ent.apt) : FedFrom s t :=
  ⟨[], none, by rw [feedTests_nil, hrct, hapt], fun _ => rfl⟩

/-- The last step of a fill feeds the probe and the data, or faults before it. -/
theorem fedFrom_fillFinish (len : BitVec 8) (s : State) : FedFrom s (fillFinish len s) := by
  obtain ⟨j, -, h⟩ | ⟨r, a, c, k, hfeed, h⟩ | ⟨r, a, hfeed, h⟩ := fillFinish_cases len s <;> rw [h]
  · exact fedFrom_of_same rfl rfl
  · exact ⟨_, _, hfeed, nofun⟩
  · exact ⟨_, _, hfeed, fun _ => rfl⟩

theorem fedFrom_fillAfterByte (len : BitVec 8) (s : State) : FedFrom s (fillAfterByte len s) := by
  obtain ⟨-, -, h⟩ | ⟨-, -, -, h⟩ | ⟨-, -, -, h⟩ | ⟨-, -, h⟩ | ⟨-, -, h⟩ := fillAfterByte_cases len s <;> rw [h]
  · exact fedFrom_of_same rfl rfl
  · exact fedFrom_fillFinish len (s.setEnt { s.ent with phase := .data })
  · exact fedFrom_of_same rfl rfl
  · exact fedFrom_fillFinish len s
  · exact fedFrom_of_same rfl rfl

theorem fedFrom_execEntFill {len : BitVec 8} {s t : State} (h : execEntFill len s = .next t) : FedFrom s t := by
  unfold execEntFill at h
  split at h
  · split at h <;> cases h
    case h_4 b _ _ =>
      obtain ⟨-, -, hrct, hapt, -⟩ := storeByte_keeps s.ent b
      have hfed := fedFrom_fillAfterByte len ((s.setPort none).setEnt (storeByte s.ent b))
      simpa only [FedFrom, State.setEnt_ent, hrct, hapt] using hfed
    all_goals exact fedFrom_of_same rfl rfl
  · cases h
    exact fedFrom_of_same rfl rfl

/-- ENT_FILL alone feeds the testers (10_state.md rule R41). -/
theorem fedFrom_exec {i : Instr} {s t : State} (h : exec i s = .next t) : FedFrom s t := by
  by_cases hi : .ent ∈ writesOf i
  · cases i with
    | entFill len => exact fedFrom_execEntFill h
    | _ => simp [writesOf] at hi
  · obtain ⟨-, -, -, -, hent, -⟩ := commandsWriteTheirRowOnly i s t h
    obtain ⟨hent, -⟩ := hent hi
    exact fedFrom_of_same (by rw [hent]) (by rw [hent])

/-- A command keeps FAULT, or latches a fault and ends (60_exceptions.md rule R242). -/
theorem exec_latches_or_keeps {i : Instr} {s t : State} (h : exec i s = .next t) : t.fault = s.fault ∨ t.busy = false := by
  obtain ⟨-, -, -, -, -, -, -, -, -, -, -, -, -, -, -, -, hlatch⟩ := commandsWriteTheirRowOnly i s t h
  exact hlatch.imp (fun ⟨hfault, _⟩ => hfault) (fun ⟨_, _, _, hbusy⟩ => hbusy)

/-- A command that runs in BUSY keeps the bounds: it starts below the cutoffs, as no fault is latched. -/
theorem exec_keeps_healthInv {i : Instr} {s t : State} (hs : HealthInv s) (hbusy : s.busy = true) (h : exec i s = .next t) :
    HealthInv t := by
  obtain ⟨hexcl, -, -, hbelow⟩ := hs
  have hfault : s.fault = false := by
    cases hf : s.fault with
    | false => rfl
    | true => exact absurd (hexcl hf) (by simp [hbusy])
  obtain ⟨hrun, hcount⟩ := hbelow hfault
  obtain ⟨l, f, hfeed, hpass⟩ := fedFrom_exec h
  obtain ⟨hrun', hcount', hnone⟩ := feedTests_bounds (by omega) (by omega) hfeed
  refine ⟨fun ht => ?_, hrun', hcount', fun ht => ?_⟩
  · refine (exec_latches_or_keeps h).resolve_left fun hsame => ?_
    rw [hsame, hfault] at ht
    cases ht
  · obtain ⟨hrun3, hcount12⟩ := hnone (hpass ht)
    exact ⟨by omega, by omega⟩

theorem runCommand_keeps_healthInv {s t : State} (hs : HealthInv s) (hbusy : s.busy = true) (h : runCommand s = .next t) :
    HealthInv t := by
  cases hd : decode s.seqCmd with
  | ok i => exact exec_keeps_healthInv hs hbusy (runCommand_of_ok hd ▸ h)
  | error e =>
    cases (runCommand_of_error hd).symm.trans h
    obtain ⟨-, hrun, hcount, -⟩ := hs
    exact ⟨fun _ => rfl, hrun, hcount, nofun⟩

/-- A write does not make a faulted SMRC busy: CMD writes are dropped in FAULTED (44_control.md rule R223). -/
theorem writeReg_busy_of_fault {s : State} (hf : s.fault = true) (r : Reg) (v : Word) : (writeReg s r v).busy = s.busy := by
  obtain ⟨-, h⟩ | ⟨-, h⟩ | ⟨i, -, h⟩ | ⟨-, -, -, h⟩ := writeReg_cases s r v <;> rw [h]
  · simp [issue, hf]
  · rw [writeStatus_eq]

theorem admitted_keeps_healthInv {s : State} (hs : HealthInv s) (off : Nat) (k : AccessKind) : HealthInv (admitted s off k) := by
  cases k with
  | read => exact hs
  | write v =>
    obtain ⟨hexcl, hrest⟩ := hs
    obtain ⟨-, -, -, -, hent, -, -, -, hfault, -⟩ := writeReg_keeps s (regAt off) v
    have hexcl' : s.fault = true → (writeReg s (regAt off) v).busy = false :=
      fun hf => (writeReg_busy_of_fault hf _ v).trans (hexcl hf)
    simp only [HealthInv, admitted, hent, hfault]
    exact ⟨hexcl', hrest⟩

theorem driveReset_keeps_healthInv {s : State} (hs : HealthInv s) (b : Bool) : HealthInv (driveReset s b) := by
  obtain ⟨-, h⟩ | ⟨-, -, h⟩ | ⟨-, -, h⟩ := driveReset_cases s b <;> rw [h]
  · exact hs
  · exact ⟨fun _ => rfl, by simp [State.reset, Ent.reset]⟩
  · exact hs

/-- Settles O27, move by move: a command feeds the testers from below the cutoffs on, and no other move reaches them. -/
theorem stepKeepsHealthBounds : Obligations.StepKeepsHealthBounds := by
  unfold Obligations.StepKeepsHealthBounds
  intro s t hs h
  obtain ⟨u, hu, hmove⟩ := step_next_cases h
  have hu : HealthInv u := by
    rw [hu]
    exact hs
  obtain ⟨-, rfl⟩ | ⟨hen, hrun⟩ | ⟨a, off, -, -, -, -, -, rfl⟩ | ⟨ans, -, hreq, hrun⟩ | ⟨b, -, rfl⟩ := hmove
  · exact hu
  · obtain ⟨-, hbusy, -⟩ := (coreEnabled_iff u).mp hen
    exact runCommand_keeps_healthInv hu hbusy hrun
  · exact admitted_keeps_healthInv hu off a.kind
  · obtain ⟨-, hbusy, -⟩ := (entReq_iff u).mp hreq
    exact runCommand_keeps_healthInv (s := u.setPort (some ans)) hu hbusy hrun
  · exact driveReset_keeps_healthInv hu b

end Sys2Proof.Machine
end

section
/-! The steps of an ENT_FILL, one at a time (43_entropy.md rules R181, R183, R187, R190): an equation for each branch of storing a byte, of
what follows it, of the last step, and of the command. -/

namespace Sys2Proof.Machine

/-! ### Storing a byte -/

theorem setIfInBounds_of_lt {n i : Nat} (v : Vector Byte n) (b : Byte) (hi : i < n) : v.setIfInBounds i b = v.set i b :=
  Vector.toList_inj.mp (by rw [Vector.toList_setIfInBounds, Vector.toList_set])

theorem toNat_add_one {k : BitVec 7} (h : k.toNat < 127) : (k + 1#7).toNat = k.toNat + 1 :=
  BitVec.toNat_add_of_lt (by simp; omega)

theorem storeByte_of_probe {e : Ent} (b : Byte) (hk : e.k.toNat < 8) :
    storeByte e b = { e with probe := e.probe.setIfInBounds e.k.toNat b, k := e.k + 1#7 } := if_pos hk

theorem storeByte_of_data {e : Ent} (b : Byte) (hk : 8 ≤ e.k.toNat) :
    storeByte e b = { e with data := e.data.setIfInBounds (e.k.toNat - 8) b, k := e.k + 1#7 } := if_neg (Nat.not_lt.mpr hk)

/-! ### The last step -/

section
variable {len : BitVec 8} {s : State} {bytes : List Byte} (hbytes : s.ent.data.toList.take len.toNat = bytes)
include hbytes

theorem fillFinish_of_found {j : Nat} (h : probeInData s.ent.probe.toList bytes len.toNat = some j) :
    fillFinish len s = s.raiseFault .entProbeInData (BitVec.ofNat 32 j) := by
  simp only [fillFinish, hbytes, h]

theorem fillFinish_of_failed {r : Rct} {a : Apt} {c : Cause} {k : Nat}
    (h : probeInData s.ent.probe.toList bytes len.toNat = none)
    (ht : feedTests (s.ent.probe.toList ++ bytes) 0 s.ent.rct s.ent.apt = (r, a, some (c, k))) :
    fillFinish len s = (s.setEnt { s.ent with rct := r, apt := a }).raiseFault c (BitVec.ofNat 32 k) := by
  simp only [fillFinish, hbytes, h, ht]

theorem fillFinish_of_passed {r : Rct} {a : Apt} (h : probeInData s.ent.probe.toList bytes len.toNat = none)
    (ht : feedTests (s.ent.probe.toList ++ bytes) 0 s.ent.rct s.ent.apt = (r, a, none)) :
    fillFinish len s = { s with
      outbuf := padded bytes, busy := false
      ent := { s.ent with rct := r, apt := a, prev := s.ent.probe, prevValid := true, phase := .idle } } := by
  simp only [fillFinish, hbytes, h, ht, State.setEnt, State.setOutbuf, State.complete]

end

/-! ### What follows the storing of a byte -/

section
variable {len : BitVec 8} {s : State}

theorem probeRepeats_iff (e : Ent) : probeRepeats e = true ↔ e.prevValid = true ∧ e.probe = e.prev := by
  simp [probeRepeats]

theorem fillAfterByte_of_more (h8 : s.ent.k.toNat ≠ 8) (hk : s.ent.k.toNat ≠ 8 + len.toNat) : fillAfterByte len s = s :=
  (if_neg h8).trans (if_neg hk)

/-- A byte to a request that is neither the probe's last nor the fill's last is stored, and no more. -/
theorem fillAfterByte_storeByte_of_more {e : Ent} (b : Byte) (he : e.k.toNat < 7 ∨ (8 ≤ e.k.toNat ∧ e.k.toNat < 7 + len.toNat))
    (hlen : len.toNat ≤ 64) : fillAfterByte len (s.setEnt (storeByte e b)) = s.setEnt (storeByte e b) := by
  obtain ⟨-, -, -, -, -, hk⟩ := storeByte_keeps e b
  have hk1 : (s.setEnt (storeByte e b)).ent.k.toNat = e.k.toNat + 1 := by
    rw [State.setEnt_ent, hk, toNat_add_one (by omega)]
  exact fillAfterByte_of_more (by omega) (by omega)

theorem fillAfterByte_of_last (hlen : 0 < len.toNat) (hk : s.ent.k.toNat = 8 + len.toNat) :
    fillAfterByte len s = fillFinish len s :=
  (if_neg (show s.ent.k.toNat ≠ 8 by omega)).trans (if_pos hk)

theorem fillAfterByte_of_repeat (hk : s.ent.k.toNat = 8) (hr : probeRepeats s.ent = true) :
    fillAfterByte len s = s.raiseFault .entProbeRepeat 0#32 :=
  (if_pos hk).trans (if_pos hr)

theorem fillAfterByte_of_probe (hk : s.ent.k.toNat = 8) (hr : probeRepeats s.ent ≠ true) :
    fillAfterByte len s =
      if len.toNat = 0 then fillFinish len (s.setEnt { s.ent with phase := .data }) else s.setEnt { s.ent with phase := .data } :=
  (if_pos hk).trans (if_neg hr)

/-! ### The command -/

variable (hlen : len.toNat ≤ 64)
include hlen

theorem execEntFill_of_idle (hphase : s.ent.phase = .idle) :
    execEntFill len s = .next (s.setEnt { s.ent with phase := .probe, k := 0#7 }) := by
  simp only [execEntFill, (lenOk_iff len).mpr hlen, hphase, if_true]

theorem execEntFill_of_error (hphase : s.ent.phase ≠ .idle) (hport : s.port = some .error) :
    execEntFill len s = .next ((s.setPort none).raiseFault .entSourceFail (s.ent.k.setWidth 32)) := by
  cases hp : s.ent.phase with
  | idle => exact absurd hp hphase
  | probe | data => simp only [execEntFill, (lenOk_iff len).mpr hlen, hp, hport, if_true]

theorem execEntFill_of_byte {b : Byte} (hphase : s.ent.phase ≠ .idle) (hport : s.port = some (.byte b)) :
    execEntFill len s = .next (fillAfterByte len ((s.setPort none).setEnt (storeByte s.ent b))) := by
  cases hp : s.ent.phase with
  | idle => exact absurd hp hphase
  | probe | data => simp only [execEntFill, (lenOk_iff len).mpr hlen, hp, hport, if_true]

end

/-- Settles O56: a byte to a request that is not the probe's last or the fill's last leaves `ent.k` at neither 8 nor 8 + LEN. -/
theorem entFillStartsAndStores : Obligations.EntFillStartsAndStores := by
  unfold Obligations.EntFillStartsAndStores
  refine ⟨by decide, fun s len hlen hrst hbusy hphase => ?_, fun s len b hlen hphase hport => ?_⟩
  · exact ⟨_, execEntFill_of_idle hlen hphase, rfl, (entReq_iff _).mpr ⟨hrst, hbusy, nofun⟩⟩
  · rw [exec_entFill, execEntFill_of_byte hlen hphase hport]
    refine ⟨fun hk => ?_, fun hk hk' _ => ?_⟩
    · rw [fillAfterByte_storeByte_of_more b (.inl hk) hlen, storeByte_of_probe b (by omega), setIfInBounds_of_lt]
      rfl
    · rw [fillAfterByte_storeByte_of_more b (.inr ⟨hk, hk'⟩) hlen, storeByte_of_data b hk, setIfInBounds_of_lt]
      rfl

/-- Settles O57: the error's step, and the two outcomes of step (a) where `ent.k` comes to 8. -/
theorem entFillErrorAndProbeCheck : Obligations.EntFillErrorAndProbeCheck := by
  unfold Obligations.EntFillErrorAndProbeCheck
  refine fun s len hlen hphase => ⟨fun hport => ?_, fun b hport hk => ?_⟩
  · rw [exec_entFill, execEntFill_of_error hlen hphase hport, BitVec.ofNat_toNat]
    rfl
  have hstore : storeByte s.ent b = { s.ent with probe := s.ent.probe.set 7 b, k := 8#7 } := by
    rw [storeByte_of_probe b (by simp [hk]), hk, setIfInBounds_of_lt]
    rfl
  rw [exec_entFill, execEntFill_of_byte hlen hphase hport, hstore]
  refine ⟨fun hvalid heq => ?_, fun hfresh hpos => ?_⟩
  · rw [fillAfterByte_of_repeat]
    · rfl
    · rfl
    · exact (probeRepeats_iff _).mpr ⟨hvalid, heq⟩
  · rw [fillAfterByte_of_probe rfl, if_neg hpos.ne']
    · rfl
    · rw [Ne, probeRepeats_iff, not_and_or]
      exact hfresh.imp (by simp) id

/-- Settles O58: the byte is stored, `ent.k` comes to 8 + LEN, and the three outcomes are those of the last step. -/
theorem entFillLastByte : Obligations.EntFillLastByte := by
  unfold Obligations.EntFillLastByte
  intro s len b hlen hphase hport hpos hk hlt
  have hstore : storeByte s.ent b =
      { s.ent with data := s.ent.data.set (len.toNat - 1) b, k := BitVec.ofNat 7 (8 + len.toNat) } := by
    have hk1 : s.ent.k + 1#7 = BitVec.ofNat 7 (8 + len.toNat) := BitVec.eq_of_toNat_eq (by simp [hk]; omega)
    have hidx : s.ent.k.toNat - 8 = len.toNat - 1 := by omega
    rw [storeByte_of_data b (by omega), hk1, hidx, setIfInBounds_of_lt]
  rw [exec_entFill, execEntFill_of_byte hlen (by simp [hphase]) hport, hstore,
    fillAfterByte_of_last hpos (by simp; omega)]
  refine ⟨fun j hfound => ?_, fun r a c k hnone htests => ?_, fun r a hnone htests => ⟨_, rfl, ?_⟩⟩
  · rw [fillFinish_of_found rfl hfound]
    rfl
  · rw [fillFinish_of_failed rfl hnone htests]
    rfl
  · rw [fillFinish_of_passed rfl hnone htests]
    refine ⟨rfl, fun i => ?_⟩
    rw [Fin.getElem_fin, getElem_padded]
    simp only [List.getD_eq_getElem?_getD, List.getElem?_take]
    split
    · simp
    · rfl

end Sys2Proof.Machine
end

section
/-! Whole fills through the machine's steps (43_entropy.md rules R182, R183, R190): the state after any number of answers in closed form, the
8 answers of a probe, and the LEN answers after them. -/

namespace Sys2Proof.Machine

/-! ### Storing many bytes -/

/-- The vector with these bytes written to it from index `i` on. -/
def putBytes {n : Nat} (v : Vector Byte n) (i : Nat) : List Byte → Vector Byte n
  | [] => v
  | b :: l => putBytes (v.setIfInBounds i b) (i + 1) l

/-- The bytes written stand behind those before them. -/
theorem take_putBytes {n i : Nat} (v : Vector Byte n) {l : List Byte} (h : i + l.length ≤ n) :
    (putBytes v i l).toList.take (i + l.length) = v.toList.take i ++ l := by
  induction l generalizing v i with
  | nil => simp [putBytes]
  | cons b l ih =>
    rw [List.length_cons] at h
    have hi : i < (v.toList.set i b).length := by simp; omega
    have hput : (v.setIfInBounds i b).toList.take (i + 1) = v.toList.take i ++ [b] := by
      rw [Vector.toList_setIfInBounds, ← List.take_append_getElem hi, List.take_set_of_le le_rfl, List.getElem_set_self]
    rw [putBytes, List.length_cons, Nat.add_comm l.length, ← Nat.add_assoc, ih _ (by omega), hput, List.append_assoc,
      List.singleton_append]

/-- A whole vector written from its start on is what was written. -/
theorem putBytes_toList {n : Nat} (v w : Vector Byte n) : putBytes v 0 w.toList = w := by
  have htake := take_putBytes (i := 0) v (l := w.toList) (by simp)
  rw [List.take_of_length_le (by simp), List.take_zero, List.nil_append] at htake
  exact Vector.toList_inj.mp htake

/-- The entropy unit after the bytes of these answers. -/
def storeBytes (e : Ent) (l : List Byte) : Ent := l.foldl storeByte e

theorem add_one_add_length (k : BitVec 7) (b : Byte) (l : List Byte) :
    k + 1#7 + BitVec.ofNat 7 l.length = k + BitVec.ofNat 7 (b :: l).length := by
  rw [BitVec.add_assoc, List.length_cons, BitVec.ofNat_add, BitVec.add_comm (BitVec.ofNat 7 l.length)]

theorem storeBytes_of_probe {e : Ent} {l : List Byte} (h : e.k.toNat + l.length ≤ 8) :
    storeBytes e l = { e with probe := putBytes e.probe e.k.toNat l, k := e.k + BitVec.ofNat 7 l.length } := by
  induction l generalizing e with
  | nil => simp [storeBytes, putBytes]
  | cons b l ih =>
    rw [List.length_cons] at h
    have hk := toNat_add_one (k := e.k) (by omega)
    calc storeBytes e (b :: l)
        = storeBytes { e with probe := e.probe.setIfInBounds e.k.toNat b, k := e.k + 1#7 } l := by
          rw [← storeByte_of_probe b (by omega)]
          rfl
      _ = _ := by
          rw [ih (by simp only [hk]; omega)]
          simp only [hk, add_one_add_length _ b, putBytes]

theorem storeBytes_of_data {e : Ent} {l : List Byte} (h8 : 8 ≤ e.k.toNat) (h : e.k.toNat + l.length ≤ 72) :
    storeBytes e l = { e with data := putBytes e.data (e.k.toNat - 8) l, k := e.k + BitVec.ofNat 7 l.length } := by
  induction l generalizing e with
  | nil => simp [storeBytes, putBytes]
  | cons b l ih =>
    rw [List.length_cons] at h
    have hk := toNat_add_one (k := e.k) (by omega)
    calc storeBytes e (b :: l)
        = storeBytes { e with data := e.data.setIfInBounds (e.k.toNat - 8) b, k := e.k + 1#7 } l := by
          rw [← storeByte_of_data b h8]
          rfl
      _ = _ := by
          rw [ih (by simp only [hk]; omega) (by simp only [hk]; omega)]
          simp only [hk, add_one_add_length _ b, putBytes, Nat.sub_add_comm h8]

/-! ### Runs -/

/-- A run goes on from where its first steps end. -/
theorem core_run_add {n : Nat} (m : Nat) {s t : State} (h : core.run n s = .next t) : core.run (n + m) s = core.run m t := by
  induction n generalizing s with
  | zero =>
    cases h
    rw [Nat.zero_add]
  | succ n ih =>
    cases hs : core.step s with
    | next u =>
      rw [core_run_succ_of_next n hs] at h
      rw [Nat.succ_add, core_run_succ_of_next _ hs, ih h]
    | fault r => simp [Host.Core.run, hs] at h
    | refused r => simp [Host.Core.run, hs] at h

/-- The state after the answers `l` to a waiting fill, with `rest` to come. -/
def State.fed (s : State) (l : List Byte) (rest : List Move) : State :=
  { s with port := none, moves := rest, ent := storeBytes s.ent l }

/-- The state after the first step of a fill, with `rest` to come. -/
def State.started (s : State) (rest : List Move) : State :=
  { s with moves := rest, ent := { s.ent with phase := .probe, k := 0#7 } }

section
variable {len : BitVec 8} {s : State} {rest : List Move} (hlen : len.toNat ≤ 64) (hdec : decode s.seqCmd = .ok (.entFill len))
include hlen hdec

theorem step_of_start (hen : coreEnabled s = true) (hm : s.moves = .core :: rest) : step s = .next (s.started rest) := by
  obtain ⟨-, -, hphase⟩ := (coreEnabled_iff s).mp hen
  calc step s = coreTurn { s with moves := rest } := step_cons hm
    _ = runCommand { s with moves := rest } := if_pos hen
    _ = execEntFill len { s with moves := rest } := runCommand_of_ok (s := { s with moves := rest }) hdec
    _ = .next (s.started rest) := execEntFill_of_idle hlen hphase

theorem step_of_byte {b : Byte} (hreq : entReq s = true) (hm : s.moves = .source (.byte b) :: rest) :
    step s = .next (fillAfterByte len (s.fed [b] rest)) := by
  obtain ⟨-, -, hphase⟩ := (entReq_iff s).mp hreq
  calc step s = sourceAnswer { s with moves := rest } (.byte b) := step_cons hm
    _ = runCommand { s with moves := rest, port := some (.byte b) } := if_pos hreq
    _ = execEntFill len { s with moves := rest, port := some (.byte b) } :=
      runCommand_of_ok (s := { s with moves := rest, port := some (.byte b) }) hdec
    _ = .next (fillAfterByte len (s.fed [b] rest)) := execEntFill_of_byte hlen hphase rfl

/-- Answers of which only the last may be the probe's last or the fill's last: they are stored, and what follows the last one follows. -/
theorem run_of_bytes {l : List Byte} (hl : l ≠ []) (hreq : entReq s = true) (hm : s.moves = byteAnswers l ++ rest)
    (hk : s.ent.k.toNat + l.length ≤ 8 ∨ (8 ≤ s.ent.k.toNat ∧ s.ent.k.toNat + l.length ≤ 8 + len.toNat)) :
    core.run l.length s = .next (fillAfterByte len (s.fed l rest)) := by
  induction l generalizing s with
  | nil => exact absurd rfl hl
  | cons b l ih =>
    have hstep : step s = .next (fillAfterByte len (s.fed [b] (byteAnswers l ++ rest))) := step_of_byte hlen hdec hreq hm
    rw [List.length_cons, core_run_succ_of_next _ hstep]
    rw [List.length_cons] at hk
    by_cases hl' : l = []
    · subst hl'
      rfl
    · have hpos := List.length_pos_of_ne_nil hl'
      obtain ⟨-, -, -, -, hphase, hk1⟩ := storeByte_keeps s.ent b
      have hmore : fillAfterByte len (s.fed [b] (byteAnswers l ++ rest)) = s.fed [b] (byteAnswers l ++ rest) :=
        fillAfterByte_storeByte_of_more (s := { s with port := none, moves := byteAnswers l ++ rest }) b (by omega) hlen
      have hreq' : entReq (s.fed [b] (byteAnswers l ++ rest)) = true := by
        rw [entReq_iff] at hreq ⊢
        obtain ⟨hrst, hbusy, hwaits⟩ := hreq
        exact ⟨hrst, hbusy, fun hidle => hwaits (hphase.symm.trans hidle)⟩
      have hk' : (s.fed [b] (byteAnswers l ++ rest)).ent.k.toNat = s.ent.k.toNat + 1 :=
        (congrArg BitVec.toNat hk1).trans (toNat_add_one (by omega))
      rw [hmore]
      exact ih hdec hl' hreq' rfl (by omega)

/-- The state after the last of a probe's 8 answers is stored, with `rest` to come. -/
def State.probed (s : State) (probe : Vector Byte 8) (rest : List Move) : State :=
  { s with port := none, moves := rest, ent := { s.ent with phase := .probe, k := 8#7, probe := probe } }

/-- The state after the last of a fill's answers is stored, with `rest` to come; `data` is what `ent.data` holds then. -/
def State.filled (s : State) (len : BitVec 8) (probe : Vector Byte 8) (data : Vector Byte 64) (rest : List Move) : State :=
  { s with port := none, moves := rest
           ent := { s.ent with phase := .data, k := BitVec.ofNat 7 (8 + len.toNat), probe := probe, data := data } }

/-- The first step of a fill and the answers of a probe. -/
theorem run_of_probe {probe : Vector Byte 8} (hen : coreEnabled s = true)
    (hm : s.moves = .core :: (byteAnswers probe.toList ++ rest)) :
    core.run 9 s = .next (fillAfterByte len (s.probed probe rest)) := by
  have hlength : probe.toList.length = 8 := Vector.length_toList
  obtain ⟨hrst, hbusy, -⟩ := (coreEnabled_iff s).mp hen
  have hreq : entReq (s.started (byteAnswers probe.toList ++ rest)) = true := (entReq_iff _).mpr ⟨hrst, hbusy, nofun⟩
  have hk : (s.started (byteAnswers probe.toList ++ rest)).ent.k.toNat + probe.toList.length ≤ 8 := by simp [State.started]
  have hfed : (s.started (byteAnswers probe.toList ++ rest)).fed probe.toList rest = s.probed probe rest := by
    rw [State.fed, storeBytes_of_probe hk]
    simp [State.started, State.probed, putBytes_toList]
  have hrun := run_of_bytes (s := s.started (byteAnswers probe.toList ++ rest)) hlen hdec
    (List.ne_nil_of_length_pos (by omega)) hreq rfl (.inl hk)
  rw [core_run_succ_of_next 8 (step_of_start hlen hdec hen hm), ← hfed, ← hrun, hlength]

/-- The answers of a fill's data, to the fill that waits for the first of them. -/
theorem run_of_data {data : List Byte} (hpos : 0 < len.toNat) (hreq : entReq s = true) (hk : s.ent.k = 8#7)
    (hdata : data.length = len.toNat) (hm : s.moves = byteAnswers data ++ rest) :
    ∃ d : Vector Byte 64, d.toList.take len.toNat = data ∧
      core.run len.toNat s = .next (fillFinish len { s with
        port := none, moves := rest, ent := { s.ent with data := d, k := BitVec.ofNat 7 (8 + len.toNat) } }) := by
  have hk8 : s.ent.k.toNat = 8 := by rw [hk]; rfl
  have hfed : s.fed data rest = { s with
      port := none, moves := rest
      ent := { s.ent with data := putBytes s.ent.data 0 data, k := BitVec.ofNat 7 (8 + len.toNat) } } := by
    rw [State.fed, storeBytes_of_data (by omega) (by omega), hdata, hk, BitVec.ofNat_add]
    rfl
  have hlast : (s.fed data rest).ent.k.toNat = 8 + len.toNat := by
    simp only [hfed, BitVec.toNat_ofNat]
    omega
  have hrun := run_of_bytes hlen hdec (List.ne_nil_of_length_pos (by omega)) hreq hm (by omega)
  rw [fillAfterByte_of_last hpos hlast, hfed, hdata] at hrun
  refine ⟨_, ?_, hrun⟩
  have htake := take_putBytes (i := 0) s.ent.data (l := data) (by omega)
  rwa [Nat.zero_add, hdata, List.take_zero, List.nil_append] at htake

/-- A fill that gets all its bytes, and whose probe does not repeat, comes to its last step. -/
theorem run_of_fill {probe : Vector Byte 8} {data : List Byte} (hen : coreEnabled s = true) (hdata : data.length = len.toNat)
    (hm : s.moves = .core :: (byteAnswers (probe.toList ++ data) ++ rest))
    (hfresh : s.ent.prevValid = false ∨ probe ≠ s.ent.prev) :
    ∃ d : Vector Byte 64, d.toList.take len.toNat = data ∧
      core.run (9 + len.toNat) s = .next (fillFinish len (s.filled len probe d rest)) := by
  have hm' : s.moves = .core :: (byteAnswers probe.toList ++ (byteAnswers data ++ rest)) := by
    rw [hm, byteAnswers, List.map_append, List.append_assoc]
    rfl
  have hnew : probeRepeats (s.probed probe (byteAnswers data ++ rest)).ent ≠ true := by
    rw [Ne, probeRepeats_iff, not_and_or]
    exact hfresh.imp (by simp [State.probed]) id
  have hrun := run_of_probe hlen hdec hen hm'
  rw [fillAfterByte_of_probe rfl hnew] at hrun
  by_cases h0 : len.toNat = 0
  · obtain rfl : data = [] := List.eq_nil_of_length_eq_zero (hdata.trans h0)
    rw [if_pos h0] at hrun
    refine ⟨s.ent.data, by rw [h0, List.take_zero], ?_⟩
    rw [State.filled, h0]
    exact hrun
  · rw [if_neg h0] at hrun
    obtain ⟨hrst, hbusy, -⟩ := (coreEnabled_iff s).mp hen
    rw [core_run_add len.toNat hrun]
    exact run_of_data (s := (s.probed probe (byteAnswers data ++ rest)).setEnt _) hlen hdec (by omega)
      ((entReq_iff _).mpr ⟨hrst, hbusy, nofun⟩) rfl hdata rfl

end

/-- Settles O60: the probe's last byte makes the fresh probe the previous one, and step (a) faults. -/
theorem entFillFrozenSource : Obligations.EntFillFrozenSource := by
  unfold Obligations.EntFillFrozenSource
  intro s len rest hlen hen _ hdec hvalid hm
  have hrun := run_of_probe hlen hdec hen hm
  rw [fillAfterByte_of_repeat (s := s.probed s.ent.prev rest) rfl ((probeRepeats_iff _).mpr ⟨hvalid, rfl⟩)] at hrun
  exact ⟨_, hrun, ⟨rfl, rfl⟩, rfl, rfl, rfl, rfl, rfl, rfl, rfl, hvalid, rfl⟩

/-- Settles O59: the fill comes to its last step, whose outcomes are those of the probe's search and of the tests. -/
theorem entFillRunsWhole : Obligations.EntFillRunsWhole := by
  unfold Obligations.EntFillRunsWhole
  intro s len probe data rest hlen hdata hen hfault hdec hm hfresh
  obtain ⟨d, hd, hrun⟩ := run_of_fill hlen hdec hen hdata hm hfresh
  refine ⟨_, hrun, ?_⟩
  cases hp : probeInData probe.toList data len.toNat with
  | some j =>
    rw [fillFinish_of_found hd hp]
    simp [State.filled]
  | none =>
    rcases ht : feedTests (probe.toList ++ data) 0 s.ent.rct s.ent.apt with ⟨r, a, _ | ⟨c, k⟩⟩
    · rw [fillFinish_of_passed hd hp ht]
      exact ⟨rfl, rfl, rfl, rfl, rfl, rfl, rfl, rfl, hfault, rfl, rfl, rfl, rfl, rfl, fun i => getElem_padded data i.isLt⟩
    · rw [fillFinish_of_failed hd hp ht]
      simp [State.filled]

end Sys2Proof.Machine
end

section
/-! The sequencer's control (44_control.md rules R221, R222, R223, R225, R227): what each move does, the CMD write,
and how a command ends. -/

namespace Sys2Proof.Machine

/-! ### The moves -/

/-- Settles O5: a step takes the next move off the list, and what the move does is a turn of the core, an answer, an access or a level. -/
theorem stepRunsDecodedCommand : Obligations.StepRunsDecodedCommand := by
  unfold Obligations.StepRunsDecodedCommand
  have hturn (s : State) (hen : coreEnabled s = true) : coreTurn s = runCommand s := if_pos hen
  have hcore (s : State) (rest : List Move) (hm : s.moves = .core :: rest) : step s = coreTurn { s with moves := rest } :=
    step_cons hm
  have hsource (s : State) (ans : Answer) (rest : List Move) (hm : s.moves = .source ans :: rest) :
      step s = sourceAnswer { s with moves := rest } ans := step_cons hm
  refine ⟨fun s i rest ans hdec => ⟨fun hm hen => ?_, fun hm hen => ?_, fun hm hreq => ?_⟩, fun s => step_nil, hcore,
    fun s => ⟨hturn s, coreTurn_of_not_enabled⟩, fun s a rest hm => step_cons hm, hsource, fun s rest hm => step_cons hm,
    fun s rest hrst hm => ?_⟩
  · rw [hcore s rest hm, hturn { s with moves := rest } hen]
    exact runCommand_of_ok (s := { s with moves := rest }) hdec
  · rw [step_nil hm, hturn s hen]
    exact runCommand_of_ok hdec
  · rw [hsource s ans rest hm, sourceAnswer, entReq_with_moves, if_pos hreq]
    exact runCommand_of_ok (s := { s with moves := rest, port := some ans }) hdec
  · rw [step_cons hm, takeMove_rst]
    simp [driveReset, hrst]

/-! ### The CMD write -/

/-- Out of reset, a host's CMD write is the issue of its word (20_memory.md rule R66). -/
theorem hostAccess_cmd {s : State} (hrst : s.rst = false) (h : Nat) (v : Word) :
    hostAccess s { host := h, addr := pBase s + 0x00C, bytes := 4, kind := .write v } = .next (issue s v) := by
  rw [hostAccess_of_windowOffset hrst (windowOffset_pBase (off := 0x00C) (by decide))]
  rfl

theorem issue_of_fault {s : State} (hfault : s.fault = true) (v : Word) : issue s v = s := if_pos hfault

/-- Settles O6: in IDLE the issue is the acceptance, whose four writes are R221's. -/
theorem cmdWriteInIdleAccepted : Obligations.CmdWriteInIdleAccepted := by
  unfold Obligations.CmdWriteInIdleAccepted
  intro s h v hrst hidle
  rw [hostAccess_cmd hrst, issue_of_isIdle hidle]
  rfl

/-- The issue of a command does not clear OVR. -/
theorem issue_ovr {s : State} (hovr : s.ovr = true) (v : Word) : (issue s v).ovr = true := by
  obtain ⟨-, h⟩ | ⟨-, -, h⟩ | ⟨-, -, h⟩ := issue_cases s v <;> rw [h]
  · exact hovr
  · exact hovr

/-- An admitted access that clears OVR is a write of STATUS with bit 2 set (10_state.md rule R23). -/
theorem admitted_clears_ovr {s : State} {off : Nat} {k : AccessKind} (h4 : off % 4 = 0) (hovr : s.ovr = true)
    (h : (admitted s off k).ovr = false) : off = 0x008 ∧ ∃ v, k = .write v ∧ v.getLsbD 2 = true := by
  cases k with
  | read => cases hovr.symm.trans h
  | write v =>
    change (writeReg s (regAt off) v).ovr = false at h
    obtain ⟨-, hw⟩ | ⟨hr, hw⟩ | ⟨i, -, hw⟩ | ⟨-, -, -, hw⟩ := writeReg_cases s (regAt off) v <;> rw [hw] at h
    · cases (issue_ovr hovr v).symm.trans h
    · obtain hreserved | hoff := offset_of_regAt hr h4
      · cases hreserved
      · refine ⟨(Option.some.inj hoff).symm, v, rfl, ?_⟩
        simpa [writeStatus_eq, hovr] using h
    · cases hovr.symm.trans h
    · cases hovr.symm.trans h

/-- The core's step on `seq.cmd` leaves OVR as it is (10_state.md rule R41). -/
theorem runCommand_ovr {s t : State} (h : runCommand s = .next t) : t.ovr = s.ovr := by
  cases hd : decode s.seqCmd with
  | ok i =>
    obtain ⟨-, -, -, -, -, -, -, -, -, hovr, -⟩ := commandsWriteTheirRowOnly i s t (runCommand_of_ok hd ▸ h)
    exact hovr
  | error e =>
    cases (runCommand_of_error hd).symm.trans h
    rfl

/-- Settles O7: the issue in BUSY and in FAULTED, and for OVR every kind of step. -/
theorem cmdWriteDropped : Obligations.CmdWriteDropped := by
  unfold Obligations.CmdWriteDropped
  refine ⟨fun s h v hrst hbusy => ?_, fun s h v hrst ⟨hfault, _⟩ => ?_, fun s t h hovr hclear => ?_⟩
  · rw [hostAccess_cmd hrst, issue_of_isBusy hbusy]
  · rw [hostAccess_cmd hrst, issue_of_fault hfault]
  obtain ⟨u, hu, hmove⟩ := step_next_cases h
  have hovr' : u.ovr = true := by rw [hu]; exact hovr
  have hne : t.ovr ≠ u.ovr := by rw [hclear, hovr']; decide
  obtain ⟨-, rfl⟩ | ⟨-, hrun⟩ | ⟨a, off, hm, -, hoff, hbytes, h4, rfl⟩ | ⟨ans, -, -, hrun⟩ | ⟨b, hm, rfl⟩ := hmove
  · exact absurd rfl hne
  · exact absurd (runCommand_ovr hrun) hne
  · obtain ⟨rfl, v, hkind, hbit⟩ := admitted_clears_ovr h4 hovr' hclear
    obtain ⟨haddr, -⟩ := windowOffset_eq_some_iff.mp hoff
    have hbase : pBase u = pBase s := by rw [hu]; rfl
    refine .inr ⟨a.host, v, ?_, hbit⟩
    rw [hm, writeAt, ← hbase, ← haddr, ← hbytes, ← hkind]
    rfl
  · exact absurd (runCommand_ovr hrun) hne
  · obtain ⟨-, hd⟩ | ⟨rfl, hrst, -⟩ | ⟨-, -, hd⟩ := driveReset_cases u b
    · exact absurd (congrArg State.ovr hd) hne
    · rw [hu] at hrst
      exact .inl ⟨hrst, by rw [hm]; rfl⟩
    · exact absurd (congrArg State.ovr hd) hne

/-! ### NOP -/

/-- Settles O33: NOP's step is the completion alone, and takes back the BUSY that the acceptance of its word set. -/
theorem nopOnlyCompletes : Obligations.NopOnlyCompletes := by
  unfold Obligations.NopOnlyCompletes
  have hnop : decode 0x00000000#32 = .ok .nop := rfl
  refine ⟨hnop, fun s => rfl, fun w hop hz => ?_, fun s hidle => ?_, fun s hbusy => issue_of_isBusy hbusy _⟩
  · exact decode_of_hasReserved (.inl ⟨by rw [hop]; decide, hz⟩)
  · rw [issue_of_isIdle hidle]
    exact runCommand_of_ok (s := s.accept 0#32) hnop

/-! ### How a command ends -/

/-- Every command but ENT_FILL ends in its step, completed or faulted (44_control.md rule R222). -/
theorem exec_ends {i : Instr} {s t : State} (hi : .ent ∉ writesOf i) (h : exec i s = .next t) : t.busy = false := by
  cases i with
  | nop | xoSeed64 | smLoad =>
    cases h
    rfl
  | ccLoad rnd =>
    obtain ⟨v, -, rfl⟩ := execCcLoad_next h
    rfl
  | ccNext32 => obtain ⟨c, rfl⟩ | ⟨n, v, w, -, -, rfl⟩ := exec_ccNext_next (.inl rfl) h <;> rfl
  | ccNext64 => obtain ⟨c, rfl⟩ | ⟨n, v, w, -, -, rfl⟩ := exec_ccNext_next (.inr rfl) h <;> rfl
  | ccFill len => obtain ⟨c, n, rfl⟩ | ⟨c, n, rfl⟩ | ⟨bytes, -, rfl⟩ := execCcFill_next h <;> rfl
  | xoLoad => obtain ⟨c, n, rfl⟩ | ⟨u, -, rfl⟩ := execXoLoad_next h <;> rfl
  | xoNext32 => obtain ⟨c, n, rfl⟩ | ⟨v, rfl⟩ := exec_xoNext_next (.inl rfl) h <;> rfl
  | xoNext64 => obtain ⟨c, n, rfl⟩ | ⟨v, rfl⟩ := exec_xoNext_next (.inr rfl) h <;> rfl
  | pcgLoad =>
    obtain ⟨u, -, rfl⟩ := execPcgLoad_next h
    rfl
  | pcgNext32 => obtain ⟨c, n, rfl⟩ | ⟨v, rfl⟩ := exec_pcgNext_next (.inl rfl) h <;> rfl
  | pcgNext64 => obtain ⟨c, n, rfl⟩ | ⟨v, rfl⟩ := exec_pcgNext_next (.inr rfl) h <;> rfl
  | smNext64 => obtain ⟨c, n, rfl⟩ | ⟨u, v, rfl⟩ := execSmNext64_next h <;> rfl
  | entFill len => exact absurd (List.mem_cons_self ..) hi

theorem ent_not_mem_writesOf {i : Instr} (hi : ∀ len, i ≠ .entFill len) : .ent ∉ writesOf i := by
  cases i with
  | entFill len => exact absurd rfl (hi len)
  | _ => simp [writesOf]

/-- Settles O8: an illegal word faults, and a command other than ENT_FILL ends in its step. -/
theorem otherCommandsEndInOneStep : Obligations.OtherCommandsEndInOneStep := by
  unfold Obligations.OtherCommandsEndInOneStep
  intro s hen hother
  rw [coreTurn, if_pos hen]
  cases hd : decode s.seqCmd with
  | ok i =>
    obtain ⟨t, ht⟩ := exec_answers_next i s
    exact ⟨t, (runCommand_of_ok hd).trans ht, exec_ends (ent_not_mem_writesOf fun len hi => hother len (hi ▸ hd)) ht⟩
  | error e => exact ⟨_, runCommand_of_error hd, rfl⟩

end Sys2Proof.Machine
end

section
/-! The sequencer's invariant (44_control.md rules R220, R222; 60_exceptions.md rule R242; 43_entropy.md rule R190): the three states it
allows, and every step. -/

namespace Sys2Proof.Machine

/-! ### The states of the sequencer -/

/-- No fault is latched: FAULT and the fault registers are 0 (10_state.md rule R26). -/
def Unlatched (s : State) : Prop := s.fault = false ∧ s.cause = none ∧ s.faultCmd = 0#32 ∧ s.faultInfo = 0#32

/-- FAULTED, with the cause latched (60_exceptions.md rule R242). -/
def InFaulted (s : State) : Prop := s.fault = true ∧ s.busy = false ∧ s.cause ≠ none

/-- IDLE, with no fill at work. -/
def InIdle (s : State) : Prop := Unlatched s ∧ s.busy = false ∧ s.ent.phase = .idle

/-- BUSY, where a fill at work has bytes to come. -/
def InBusy (s : State) : Prop := Unlatched s ∧ s.busy = true ∧ (s.ent.phase ≠ .idle → fillPending s = true)

/-- The invariant in the three states of the sequencer (44_control.md rule R220). -/
theorem seqInv_iff (s : State) : SeqInv s ↔ s.port = none ∧ (InFaulted s ∨ InIdle s ∨ InBusy s) := by
  simp only [SeqInv, InFaulted, InIdle, InBusy, Unlatched]
  cases s.fault <;> cases s.busy <;> simp <;> tauto

theorem inBusy_of_busy {s : State} (hs : SeqInv s) (hbusy : s.busy = true) : InBusy s := by
  obtain ⟨-, ⟨-, hidle, -⟩ | ⟨-, hidle, -⟩ | h⟩ := (seqInv_iff s).mp hs
  · cases hidle.symm.trans hbusy
  · cases hidle.symm.trans hbusy
  · exact h

/-- Taking a fault leads to FAULTED. -/
theorem seqInv_raiseFault {s : State} (hport : s.port = none) (c : Cause) (n : Word) : SeqInv (s.raiseFault c n) :=
  (seqInv_iff _).mpr ⟨hport, .inl ⟨rfl, rfl, nofun⟩⟩

theorem seqInv_of_inIdle {s : State} (hport : s.port = none) (h : InIdle s) : SeqInv s :=
  (seqInv_iff s).mpr ⟨hport, .inr (.inl h)⟩

theorem seqInv_of_inBusy {s : State} (hport : s.port = none) (h : InBusy s) : SeqInv s :=
  (seqInv_iff s).mpr ⟨hport, .inr (.inr h)⟩

/-- A fill at work is an ENT_FILL with requests to come, the first 8 of them in the phase PROBE. -/
theorem fillPending_iff (s : State) : fillPending s = true ↔
    ∃ len, decode s.seqCmd = .ok (.entFill len) ∧ s.ent.k.toNat < 8 + len.toNat ∧
      (s.ent.phase = .probe ↔ s.ent.k.toNat < 8) := by
  unfold fillPending
  split
  · next len hd => simp [hd]
  · next hd => simpa using fun len h => absurd h (hd len)

/-- A fill's LEN is at most 64 where its word decodes (30_encoding.md rule R82). -/
theorem len_le_of_decode {w : Word} {len : BitVec 8} (h : decode w = .ok (.entFill len)) : len.toNat ≤ 64 := by
  have hwf : lenOk len = true := (encodeOfDecode w (.entFill len) h).1
  exact (lenOk_iff len).mp hwf

/-! ### The steps of a fill -/

/-- The last step of a fill leads to FAULTED or, with the phase IDLE, to IDLE. -/
theorem seqInv_fillFinish {s : State} (hs : Unlatched s) (hport : s.port = none) (len : BitVec 8) : SeqInv (fillFinish len s) := by
  obtain ⟨j, -, h⟩ | ⟨r, a, c, k, -, h⟩ | ⟨r, a, -, h⟩ := fillFinish_cases len s <;> rw [h]
  · exact seqInv_raiseFault hport ..
  · exact seqInv_raiseFault hport ..
  · exact seqInv_of_inIdle (by simpa using hport) ⟨by simpa [Unlatched] using hs, rfl, rfl⟩

/-- A fill that has stored the byte of a pending request ends, or waits for the next byte with the phase that its count says. -/
theorem seqInv_fillAfterByte {s : State} {len : BitVec 8} (hs : Unlatched s) (hport : s.port = none) (hbusy : s.busy = true)
    (hdec : decode s.seqCmd = .ok (.entFill len)) (hk : s.ent.k.toNat ≤ 8 + len.toNat)
    (hphase : s.ent.phase = .probe ↔ s.ent.k.toNat ≤ 8) : SeqInv (fillAfterByte len s) := by
  obtain ⟨-, -, h⟩ | ⟨-, -, -, h⟩ | ⟨h8, -, hpos, h⟩ | ⟨-, -, h⟩ | ⟨h8, hlast, h⟩ :=
    fillAfterByte_cases len s <;> rw [h]
  · exact seqInv_raiseFault hport ..
  · exact seqInv_fillFinish (s := s.setEnt { s.ent with phase := .data }) hs hport len
  · have hpending : fillPending (s.setEnt { s.ent with phase := .data }) = true :=
      (fillPending_iff _).mpr ⟨len, hdec, by simp; omega, by simp [h8]⟩
    exact seqInv_of_inBusy hport ⟨hs, hbusy, fun _ => hpending⟩
  · exact seqInv_fillFinish hs hport len
  · have hpending : fillPending s = true := (fillPending_iff s).mpr ⟨len, hdec, by omega, hphase.trans (by omega)⟩
    exact seqInv_of_inBusy hport ⟨hs, hbusy, fun _ => hpending⟩

/-- The step of a fill on a source answer. -/
theorem runCommand_keeps_seqInv_of_answer {s t : State} {ans : Answer} (hs : SeqInv s) (hreq : entReq s = true)
    (h : runCommand (s.setPort (some ans)) = .next t) : SeqInv t := by
  obtain ⟨-, hbusy, hphase⟩ := (entReq_iff s).mp hreq
  obtain ⟨hlatch, -, hpending⟩ := inBusy_of_busy hs hbusy
  obtain ⟨len, hdec, hk, hprobe⟩ := (fillPending_iff s).mp (hpending hphase)
  have hlen := len_le_of_decode hdec
  rw [runCommand_of_ok (s := s.setPort (some ans)) hdec, exec_entFill] at h
  cases ans with
  | error =>
    cases (execEntFill_of_error (s := s.setPort (some .error)) hlen hphase rfl).symm.trans h
    exact seqInv_raiseFault rfl ..
  | byte b =>
    cases (execEntFill_of_byte (s := s.setPort (some (.byte b))) hlen hphase rfl).symm.trans h
    obtain ⟨-, -, -, -, hphase', hk'⟩ := storeByte_keeps s.ent b
    have hk1 : (storeByte s.ent b).k.toNat = s.ent.k.toNat + 1 := by rw [hk', toNat_add_one (by omega)]
    refine seqInv_fillAfterByte hlatch rfl hbusy hdec ?_ ?_
    · change (storeByte s.ent b).k.toNat ≤ _
      omega
    · change (storeByte s.ent b).phase = .probe ↔ (storeByte s.ent b).k.toNat ≤ 8
      rw [hphase', hprobe]
      omega

/-! ### The other moves -/

/-- A command other than ENT_FILL, run in BUSY with no fill at work, leads to FAULTED or to IDLE. -/
theorem exec_keeps_seqInv_of_ends {i : Instr} {s t : State} (hs : Unlatched s) (hport : s.port = none) (hphase : s.ent.phase = .idle)
    (hi : .ent ∉ writesOf i) (h : exec i s = .next t) : SeqInv t := by
  obtain ⟨-, -, -, -, hent, -, -, -, -, -, -, -, -, -, -, -, hlatch⟩ := commandsWriteTheirRowOnly i s t h
  obtain ⟨hent, hport'⟩ := hent hi
  have hbusy := exec_ends hi h
  refine (seqInv_iff t).mpr ⟨hport'.trans hport, ?_⟩
  obtain ⟨hfault, hcause, hcmd, hinfo⟩ | ⟨hfault, hcause, -, -⟩ := hlatch
  · refine .inr (.inl ⟨?_, hbusy, hent ▸ hphase⟩)
    rwa [Unlatched, hfault, hcause, hcmd, hinfo]
  · exact .inl ⟨hfault, hbusy, hcause⟩

/-- A step of the core: an illegal word faults, an ENT_FILL makes its first request, and every other command ends. -/
theorem runCommand_keeps_seqInv_of_core {s t : State} (hs : SeqInv s) (hen : coreEnabled s = true) (h : runCommand s = .next t) :
    SeqInv t := by
  obtain ⟨hport, -⟩ := (seqInv_iff s).mp hs
  obtain ⟨-, hbusy, hphase⟩ := (coreEnabled_iff s).mp hen
  obtain ⟨hlatch, -⟩ := inBusy_of_busy hs hbusy
  cases hd : decode s.seqCmd with
  | error e =>
    cases (runCommand_of_error hd).symm.trans h
    exact seqInv_raiseFault hport ..
  | ok i =>
    rw [runCommand_of_ok hd] at h
    by_cases hi : ∃ len, i = .entFill len
    · obtain ⟨len, rfl⟩ := hi
      cases (execEntFill_of_idle (len_le_of_decode hd) hphase).symm.trans h
      have hpending : fillPending (s.setEnt { s.ent with phase := .probe, k := 0#7 }) = true :=
        (fillPending_iff _).mpr ⟨len, hd, by simp, by simp⟩
      exact seqInv_of_inBusy hport ⟨hlatch, hbusy, fun _ => hpending⟩
    · exact exec_keeps_seqInv_of_ends hlatch hport hphase (ent_not_mem_writesOf (not_exists.mp hi)) h

/-- The issue of a command: where it is accepted, no fill is at work. -/
theorem issue_keeps_seqInv {s : State} (hs : SeqInv s) (v : Word) : SeqInv (issue s v) := by
  obtain ⟨-, h⟩ | ⟨-, -, h⟩ | ⟨hfault, hbusy, h⟩ := issue_cases s v <;> rw [h]
  · exact hs
  · exact hs
  · obtain ⟨hport, ⟨hfault', -⟩ | ⟨hlatch, -, hphase⟩ | ⟨-, hbusy', -⟩⟩ := (seqInv_iff s).mp hs
    · cases hfault.symm.trans hfault'
    · exact seqInv_of_inBusy hport ⟨hlatch, rfl, fun hne => absurd hphase hne⟩
    · cases hbusy.symm.trans hbusy'

theorem admitted_keeps_seqInv {s : State} (hs : SeqInv s) (off : Nat) (k : AccessKind) : SeqInv (admitted s off k) := by
  cases k with
  | read => exact hs
  | write v =>
    change SeqInv (writeReg s (regAt off) v)
    obtain ⟨-, h⟩ | ⟨-, h⟩ | ⟨i, -, h⟩ | ⟨-, -, -, h⟩ := writeReg_cases s (regAt off) v <;> rw [h]
    · exact issue_keeps_seqInv hs v
    · rw [writeStatus_eq]
      exact hs
    · exact hs
    · exact hs

theorem driveReset_keeps_seqInv {s : State} (hs : SeqInv s) (b : Bool) : SeqInv (driveReset s b) := by
  obtain ⟨-, h⟩ | ⟨-, -, h⟩ | ⟨-, -, h⟩ := driveReset_cases s b <;> rw [h]
  · exact hs
  · exact seqInv_of_inIdle rfl ⟨⟨rfl, rfl, rfl, rfl⟩, rfl, rfl⟩
  · exact hs

/-- Settles O24, move by move: each leads from one of the three states of `seqInv_iff` to one of them. -/
theorem stepKeepsSequencerInvariant : Obligations.StepKeepsSequencerInvariant := by
  unfold Obligations.StepKeepsSequencerInvariant
  intro s t hs h
  obtain ⟨u, hu, hmove⟩ := step_next_cases h
  have hu : SeqInv u := by
    rw [hu]
    exact hs
  obtain ⟨-, rfl⟩ | ⟨hen, hrun⟩ | ⟨a, off, -, -, -, -, -, rfl⟩ | ⟨ans, -, hreq, hrun⟩ | ⟨b, -, rfl⟩ := hmove
  · exact hu
  · exact runCommand_keeps_seqInv_of_core hu hen hrun
  · exact admitted_keeps_seqInv hu off a.kind
  · exact runCommand_keeps_seqInv_of_answer hu hreq hrun
  · exact driveReset_keeps_seqInv hu b

end Sys2Proof.Machine
end

section
/-! Taking a fault (60_exceptions.md rules R242 to R247): what each command can raise and what it keeps when it does, and FAULTED as the
state that only a release of reset leaves. -/

namespace Sys2Proof.Machine

/-! ### What a fault keeps -/

/-- `u` has the result registers, the seeded bits, PREV_VALID and CC_RND of `s`, and its command word (60_exceptions.md rule R242). -/
def KeepsResults (s u : State) : Prop :=
  u.seqCmd = s.seqCmd ∧ u.outLo = s.outLo ∧ u.outHi = s.outHi ∧ u.outbuf = s.outbuf ∧ u.cc.seeded = s.cc.seeded ∧
    u.cc.rnd = s.cc.rnd ∧ u.xo.seeded = s.xo.seeded ∧ u.pcg.seeded = s.pcg.seeded ∧ u.sm.seeded = s.sm.seeded ∧
    u.ent.prevValid = s.ent.prevValid

theorem keepsResults_refl (s : State) : KeepsResults s s := ⟨rfl, rfl, rfl, rfl, rfl, rfl, rfl, rfl, rfl, rfl⟩

/-- CC_FILL's byte loop changes neither the seeded bit nor CC_RND. -/
theorem keepsResults_fillLoop (n : Nat) (s : State) : KeepsResults s (s.setCc (fillLoop n s.cc).1) := by
  obtain ⟨hrnd, hseeded⟩ := fillLoop_keeps n s.cc
  exact ⟨rfl, rfl, rfl, rfl, hseeded, hrnd, rfl, rfl, rfl, rfl⟩

/-- A fill's working state and testers are no result. -/
theorem keepsResults_setEnt {s u : State} {e : Ent} (h : KeepsResults s u) (he : e.prevValid = u.ent.prevValid) :
    KeepsResults s (u.setEnt e) := by
  simpa only [KeepsResults, State.setEnt, he] using h

/-! ### What each command can raise -/

/-- The causes and FAULT_INFO values of a command in the state `s`: those of the table, ILLEGAL_CMD of a term that is no legal command,
and a source error with `ent.k`, whatever it is (60_exceptions.md rule R243, log 13). -/
def Raises (i : Instr) (s : State) (c : Cause) (n : Word) : Prop :=
  faultOf i c n = true ∨ (i.wellFormed = false ∧ c = .illegalCmd) ∨
    ∃ len, i = .entFill len ∧ c = .entSourceFail ∧ n = s.ent.k.setWidth 32

/-- `t` has the latch of `s`, or a fault of the command `i` from `s`, taken after changes that keep the results. -/
def LatchesOnly (i : Instr) (s t : State) : Prop :=
  (t.fault = s.fault ∧ t.cause = s.cause) ∨ ∃ u c n, KeepsResults s u ∧ Raises i s c n ∧ t = u.raiseFault c n

section
variable {i : Instr} {s t u : State} {c : Cause} {n : Word}

theorem latchesOnly_of_same (hfault : t.fault = s.fault) (hcause : t.cause = s.cause) : LatchesOnly i s t :=
  .inl ⟨hfault, hcause⟩

theorem latchesOnly_of_listed (hu : KeepsResults s u) (h : faultOf i c n = true) : LatchesOnly i s (u.raiseFault c n) :=
  .inr ⟨u, c, n, hu, .inl h, rfl⟩

theorem latchesOnly_of_illegal (h : ¬i.wellFormed = true) : LatchesOnly i s (s.raiseFault .illegalCmd n) :=
  .inr ⟨s, _, n, keepsResults_refl s, .inr (.inl ⟨Bool.eq_false_iff.mpr h, rfl⟩), rfl⟩

end

theorem latchesOnly_execCcFill {len : BitVec 8} {s t : State} (h : execCcFill len s = .next t) :
    LatchesOnly (.ccFill len) s t := by
  unfold execCcFill at h
  split at h
  · split at h
    · split at h <;> cases h
      · next u hu =>
        have hkeeps := keepsResults_fillLoop len.toNat s
        rw [hu] at hkeeps
        exact latchesOnly_of_listed hkeeps rfl
      · exact latchesOnly_of_same (by simp) (by simp)
    · cases h
      exact latchesOnly_of_listed (keepsResults_refl s) rfl
  · next hlen =>
    cases h
    exact latchesOnly_of_illegal hlen

/-- The offset that the probe's search gives leaves room for 8 bytes (43_entropy.md rule R184). -/
theorem probeInData_add_le {probe data : List Byte} {len j : Nat} (h : probeInData probe data len = some j) : j + 8 ≤ len := by
  obtain ⟨-, hj, -⟩ := List.find?_range_eq_some.mp h
  have hlt : j < len + 1 - 8 := List.mem_range.mp hj
  omega

/-- A stream fails with the cause of one of the two tests, at the index of one of its bytes (43_entropy.md rules R183, R187). -/
theorem feedTests_failure {l : List Byte} {k n : Nat} {r r' : Rct} {a a' : Apt} {c : Cause}
    (h : feedTests l k r a = (r', a', some (c, n))) : (c = .entRctFail ∨ c = .entAptFail) ∧ n < k + l.length := by
  induction l generalizing k r a with
  | nil => cases h
  | cons x l ih =>
    rw [List.length_cons]
    unfold feedTests at h
    split at h
    · cases h
      exact ⟨.inl rfl, by omega⟩
    · split at h
      · cases h
        exact ⟨.inr rfl, by omega⟩
      · obtain ⟨hc, hn⟩ := ih h
        exact ⟨hc, by omega⟩

/-- The faults of a fill's last step: an offset of the data, or an index of the stream of 8 + LEN bytes (60_exceptions.md rule R243). -/
theorem latchesOnly_fillFinish {len : BitVec 8} {s u : State} (hu : KeepsResults s u) (hfault : u.fault = s.fault)
    (hcause : u.cause = s.cause) : LatchesOnly (.entFill len) s (fillFinish len u) := by
  have hlen := len.isLt
  obtain ⟨j, hj, h⟩ | ⟨r, a, c, k, hfeed, h⟩ | ⟨r, a, -, h⟩ := fillFinish_cases len u <;> rw [h]
  · have hroom := probeInData_add_le hj
    have hinfo : (BitVec.ofNat 32 j).toNat + 8 ≤ len.toNat := by rw [BitVec.toNat_ofNat]; omega
    exact latchesOnly_of_listed hu (by simpa [faultOf] using hinfo)
  · obtain ⟨hc, hk⟩ := feedTests_failure hfeed
    have hindex : k < 8 + len.toNat := by
      rw [List.length_append, List.length_take, Vector.length_toList] at hk
      omega
    have hinfo : (BitVec.ofNat 32 k).toNat < 8 + len.toNat := by rw [BitVec.toNat_ofNat]; omega
    refine latchesOnly_of_listed (keepsResults_setEnt hu rfl) ?_
    obtain rfl | rfl := hc <;> simpa [faultOf] using hinfo
  · exact latchesOnly_of_same (by simpa using hfault) (by simpa using hcause)

theorem latchesOnly_fillAfterByte {len : BitVec 8} {s u : State} (hu : KeepsResults s u) (hfault : u.fault = s.fault)
    (hcause : u.cause = s.cause) : LatchesOnly (.entFill len) s (fillAfterByte len u) := by
  obtain ⟨-, -, h⟩ | ⟨-, -, -, h⟩ | ⟨-, -, -, h⟩ | ⟨-, -, h⟩ | ⟨-, -, h⟩ := fillAfterByte_cases len u <;> rw [h]
  · exact latchesOnly_of_listed hu (by simp [faultOf])
  · exact latchesOnly_fillFinish (keepsResults_setEnt hu rfl) hfault hcause
  · exact latchesOnly_of_same hfault hcause
  · exact latchesOnly_fillFinish hu hfault hcause
  · exact latchesOnly_of_same hfault hcause

theorem latchesOnly_execEntFill {len : BitVec 8} {s t : State} (h : execEntFill len s = .next t) :
    LatchesOnly (.entFill len) s t := by
  unfold execEntFill at h
  split at h
  · split at h <;> cases h
    · exact latchesOnly_of_same rfl rfl
    · exact latchesOnly_of_same rfl rfl
    · exact .inr ⟨s.setPort none, _, _, keepsResults_refl s, .inr (.inr ⟨len, rfl, rfl, rfl⟩), rfl⟩
    · next b _ _ =>
      obtain ⟨-, hprev, -⟩ := storeByte_keeps s.ent b
      exact latchesOnly_fillAfterByte (keepsResults_setEnt (u := s.setPort none) (keepsResults_refl s) hprev) rfl rfl
  · next hlen =>
    cases h
    exact latchesOnly_of_illegal hlen

/-- Every command leaves the latch as it is, or raises a fault of its own and keeps the results (60_exceptions.md rules R242, R243). -/
theorem exec_latchesOnly {i : Instr} {s t : State} (h : exec i s = .next t) : LatchesOnly i s t := by
  cases i with
  | nop | xoSeed64 | pcgLoad | smLoad =>
    cases h
    exact latchesOnly_of_same rfl rfl
  | ccLoad rnd =>
    obtain ⟨v, -, rfl⟩ := execCcLoad_next h
    exact latchesOnly_of_same rfl rfl
  | ccNext32 | ccNext64 =>
    simp only [exec_ccNext32, exec_ccNext64, execCcNext32, execCcNext64] at h
    split at h
    · split at h <;> cases h
      · exact latchesOnly_of_listed (keepsResults_refl s) rfl
      · exact latchesOnly_of_same rfl rfl
    · cases h
      exact latchesOnly_of_listed (keepsResults_refl s) rfl
  | ccFill len => exact latchesOnly_execCcFill h
  | xoLoad =>
    simp only [exec_xoLoad, execXoLoad] at h
    split at h <;> cases h
    · exact latchesOnly_of_listed (keepsResults_refl s) rfl
    · exact latchesOnly_of_same rfl rfl
  | xoNext32 | xoNext64 | pcgNext32 | pcgNext64 | smNext64 =>
    simp only [exec_xoNext32, exec_xoNext64, exec_pcgNext32, exec_pcgNext64, exec_smNext64, execXoNext32, execXoNext64,
      execPcgNext32, execPcgNext64, execSmNext64] at h
    split at h <;> cases h
    · exact latchesOnly_of_same rfl rfl
    · exact latchesOnly_of_listed (keepsResults_refl s) rfl
  | entFill len => exact latchesOnly_execEntFill h

/-- A command that takes FAULT from 0 to 1 raises a fault of its own. -/
theorem exec_raises {i : Instr} {s t : State} (h : exec i s = .next t) (hs : s.fault = false) (ht : t.fault = true) :
    ∃ u c n, KeepsResults s u ∧ Raises i s c n ∧ t = u.raiseFault c n := by
  refine (exec_latchesOnly h).resolve_left fun ⟨hsame, _⟩ => ?_
  cases hs.symm.trans (hsame.symm.trans ht)

/-- Settles O18: of the faults a command can raise, the table leaves out an illegal command's and a source error past the last request. -/
theorem faultCausesOfCommands : Obligations.FaultCausesOfCommands := by
  unfold Obligations.FaultCausesOfCommands
  intro i s t hwf hk h hs ht
  obtain ⟨u, c, n, -, hraises, rfl⟩ := exec_raises h hs ht
  refine ⟨c, rfl, ?_⟩
  obtain hlisted | ⟨hillegal, -⟩ | ⟨len, rfl, rfl, rfl⟩ := hraises
  · exact hlisted
  · cases hwf.symm.trans hillegal
  · have hinfo : (s.ent.k.setWidth 32).toNat < 8 + len.toNat := by
      rw [BitVec.toNat_setWidth_of_le (by decide)]
      exact hk len rfl
    simpa [faultOf] using hinfo

/-- The table lists UNSEEDED for the generator commands alone (60_exceptions.md rule R244). -/
theorem not_raises_unseeded {i : Instr} {s : State} {n : Word} (hi : i = .nop ∨ (∃ r, i = .ccLoad r) ∨ i = .xoLoad ∨
    i = .xoSeed64 ∨ i = .pcgLoad ∨ i = .smLoad ∨ ∃ len, i = .entFill len) : ¬Raises i s .unseeded n := by
  rintro (hlisted | ⟨-, hc⟩ | ⟨len, -, hc, -⟩)
  · obtain rfl | ⟨r, rfl⟩ | rfl | rfl | rfl | rfl | ⟨len, rfl⟩ := hi <;> simp [faultOf] at hlisted
  · cases hc
  · cases hc

/-- Settles O19: each generator command tests its SEEDED bit first, and no other command raises UNSEEDED. -/
theorem unseededCheck : Obligations.UnseededCheck := by
  unfold Obligations.UnseededCheck
  refine ⟨fun s hs => ⟨execCcNext32_of_unseeded hs, execCcNext64_of_unseeded hs, fun len hwf => ?_⟩,
    fun s hs => ⟨execXoNext32_of_unseeded hs, execXoNext64_of_unseeded hs⟩,
    fun s hs => ⟨execPcgNext32_of_unseeded hs, execPcgNext64_of_unseeded hs⟩,
    fun s hs => execSmNext64_of_unseeded hs, fun i s t hi h ht => ?_⟩
  · exact execCcFill_of_unseeded ((lenOk_iff len).mp hwf) hs
  · obtain ⟨-, hcause⟩ | ⟨u, c, n, -, hraises, rfl⟩ := exec_latchesOnly h
    · exact hcause.symm.trans ht
    · cases ht
      exact absurd hraises (not_raises_unseeded hi)

/-! ### The way out of a fault -/

/-- The core's step does not clear the latch. -/
theorem runCommand_fault {s t : State} (hs : s.fault = true) (h : runCommand s = .next t) : t.fault = true := by
  cases hd : decode s.seqCmd with
  | ok i =>
    obtain ⟨hfault, -⟩ | ⟨u, c, n, -, -, rfl⟩ := exec_latchesOnly (runCommand_of_ok hd ▸ h)
    · exact hfault.trans hs
    · rfl
  | error e =>
    cases (runCommand_of_error hd).symm.trans h
    rfl

/-- A level of the reset input leaves everything else as it is, or releases an asserted reset (70_reset_and_hazards.md rule R270). -/
theorem driveReset_eq_or_releases (s : State) (b : Bool) :
    driveReset s b = { s with rst := b || s.rst } ∨ (s.rst = true ∧ b = false) := by
  obtain ⟨rfl, h⟩ | ⟨rfl, hrst, -⟩ | ⟨rfl, hrst, h⟩ := driveReset_cases s b
  · exact .inl h
  · exact .inr ⟨hrst, rfl⟩
  · exact .inl h

theorem admitted_fault (s : State) (off : Nat) (k : AccessKind) : (admitted s off k).fault = s.fault := by
  cases k with
  | read => rfl
  | write v =>
    obtain ⟨-, -, -, -, -, -, -, -, hfault, -⟩ := writeReg_keeps s (regAt off) v
    exact hfault

/-- FAULT stays 1 until a step releases reset (60_exceptions.md rule R247). -/
theorem step_fault {s t : State} (h : step s = .next t) (hs : s.fault = true) : t.fault = true ∨ releasesReset s := by
  obtain ⟨u, hu, hmove⟩ := step_next_cases h
  have hfault : u.fault = true := by rw [hu]; exact hs
  obtain ⟨-, rfl⟩ | ⟨-, hrun⟩ | ⟨a, off, -, -, -, -, -, rfl⟩ | ⟨ans, -, -, hrun⟩ | ⟨b, hm, rfl⟩ := hmove
  · exact .inl hfault
  · exact .inl (runCommand_fault hfault hrun)
  · exact .inl ((admitted_fault u off a.kind).trans hfault)
  · exact .inl (runCommand_fault (s := u.setPort (some ans)) hfault hrun)
  · obtain hd | ⟨hrst, rfl⟩ := driveReset_eq_or_releases u b
    · exact .inl (by rw [hd]; exact hfault)
    · rw [hu] at hrst
      exact .inr ⟨hrst, by rw [hm]; rfl⟩

/-- Settles O17: a command's fault is `raiseFault` after changes that keep the results, and only reset clears the latch. -/
theorem faultStepAndResults : Obligations.FaultStepAndResults := by
  unfold Obligations.FaultStepAndResults
  refine ⟨fun s c info => rfl, fun i s t h hs ht => ?_, fun s t => step_fault⟩
  obtain ⟨u, c, n, ⟨hcmd, hkeeps⟩, -, rfl⟩ := exec_raises h hs ht
  exact ⟨rfl, hcmd, hkeeps⟩

/-! ### FAULTED -/

/-- `t` differs from `s` at most in what may change in FAULTED: OVR, which may fall, the SEED registers, the level of the reset input, and
the model's own fields (60_exceptions.md rule R246). -/
def SameInFaulted (s t : State) : Prop :=
  ∃ ovr seed rst rdata moves, (ovr = true → s.ovr = true) ∧
    t = { s with ovr := ovr, seed := seed, rst := rst, rdata := rdata, moves := moves }

theorem sameInFaulted_with_moves (s : State) (ms : List Move) : SameInFaulted s { s with moves := ms } :=
  ⟨s.ovr, s.seed, s.rst, s.rdata, ms, id, rfl⟩

theorem SameInFaulted.trans {s t u : State} (h : SameInFaulted s t) (h' : SameInFaulted t u) : SameInFaulted s u := by
  obtain ⟨ovr, seed, rst, rdata, ms, hovr, rfl⟩ := h
  obtain ⟨ovr', seed', rst', rdata', ms', hovr', rfl⟩ := h'
  exact ⟨ovr', seed', rst', rdata', ms', hovr ∘ hovr', rfl⟩

/-- In FAULTED a CMD write is dropped, so an access reaches OVR, the SEED registers and what it reads (20_memory.md rule R66). -/
theorem sameInFaulted_admitted {s : State} (hs : s.fault = true) (off : Nat) (k : AccessKind) :
    SameInFaulted s (admitted s off k) := by
  cases k with
  | read => exact ⟨s.ovr, s.seed, s.rst, _, s.moves, id, rfl⟩
  | write v =>
    change SameInFaulted s (writeReg s (regAt off) v)
    obtain ⟨-, h⟩ | ⟨-, h⟩ | ⟨i, -, h⟩ | ⟨-, -, -, h⟩ := writeReg_cases s (regAt off) v <;> rw [h]
    · rw [issue_of_fault hs]
      exact sameInFaulted_with_moves s s.moves
    · rw [writeStatus_eq]
      exact ⟨_, s.seed, s.rst, s.rdata, s.moves, fun hovr => (Bool.and_eq_true_iff.mp hovr).1, rfl⟩
    · exact ⟨s.ovr, _, s.rst, s.rdata, s.moves, id, rfl⟩
    · exact sameInFaulted_with_moves s s.moves

/-- With BUSY 0 neither the core nor the source makes a step (44_control.md rule R225), so what is left is an access or the reset input. -/
theorem step_sameInFaulted {s t : State} (hs : isFaulted s) (h : step s = .next t) (hrel : ¬releasesReset s) : SameInFaulted s t := by
  obtain ⟨hfault, hbusy⟩ := hs
  obtain ⟨u, hu, hmove⟩ := step_next_cases h
  have hsu : SameInFaulted s u := by
    rw [hu]
    exact sameInFaulted_with_moves s u.moves
  have hfault' : u.fault = true := by rw [hu]; exact hfault
  have hbusy' : u.busy = false := by rw [hu]; exact hbusy
  obtain ⟨-, rfl⟩ | ⟨hen, -⟩ | ⟨a, off, -, -, -, -, -, rfl⟩ | ⟨ans, -, hreq, -⟩ | ⟨b, hm, rfl⟩ := hmove
  · exact hsu
  · obtain ⟨-, hrunning, -⟩ := (coreEnabled_iff u).mp hen
    cases hbusy'.symm.trans hrunning
  · exact hsu.trans (sameInFaulted_admitted hfault' off a.kind)
  · obtain ⟨-, hrunning, -⟩ := (entReq_iff u).mp hreq
    cases hbusy'.symm.trans hrunning
  · obtain hd | ⟨hrst, rfl⟩ := driveReset_eq_or_releases u b
    · rw [hd]
      exact hsu.trans ⟨u.ovr, u.seed, _, u.rdata, u.moves, id, rfl⟩
    · rw [hu] at hrst
      exact absurd ⟨hrst, by rw [hm]; rfl⟩ hrel

/-- Settles O20: what a step may change in FAULTED is no field of the list, and admission does not look at the sequencer's state. -/
theorem faultedIsTerminal : Obligations.FaultedIsTerminal := by
  unfold Obligations.FaultedIsTerminal
  refine ⟨fun s t hs h hrel => ?_, fun s host off k _ hrst hlt h4 => ?_⟩
  · obtain ⟨ovr, seed, rst, rdata, moves, hovr, rfl⟩ := step_sameInFaulted hs h hrel
    exact ⟨hs, rfl, rfl, rfl, rfl, rfl, rfl, rfl, rfl, rfl, rfl, rfl, rfl, rfl, rfl, hovr⟩
  · obtain ⟨hadmits, -⟩ := onlyAlignedWordsAdmitted s host off 4 k hrst hlt
    exact hadmits ⟨rfl, h4⟩

end Sys2Proof.Machine
end

section
/-! The reset input asserted, and the outputs out of reset (70_reset_and_hazards.md rules R270, R271, R286; 60_exceptions.md rule R248). -/

namespace Sys2Proof.Machine

theorem entReq_of_rst {s : State} (hrst : s.rst = true) : entReq s = false := by
  simp [entReq, hrst]

theorem entReq_of_no_fill {s : State} (h : s.busy = false ∨ s.ent.phase = .idle) : entReq s = false := by
  obtain hbusy | hphase := h
  · simp [entReq, hbusy]
  · simp [entReq, hphase]

theorem sourceAnswer_of_no_request {s : State} (h : entReq s = false) (ans : Answer) :
    sourceAnswer s ans = .refused .answerWithoutRequest := by
  simp [sourceAnswer, h]

theorem hostAccess_of_rst {s : State} {a : Access} (hrst : s.rst = true) (hlo : pBase s ≤ a.addr)
    (hhi : a.addr < pBase s + 4096) : hostAccess s a = .refused .accessInReset := by
  have hoff : windowOffset s a.addr = some (a.addr - pBase s) := windowOffset_eq_some_iff.mpr ⟨by omega, by omega⟩
  simp [hostAccess, hoff, hrst]

/-- Under reset neither the core, a host nor the source makes a step, so what is left is the reset input itself (70_reset_and_hazards.md
rule R270). -/
theorem step_of_rst {s t : State} (hrst : s.rst = true) (h : step s = .next t) :
    releasesReset s ∨ t = { s with moves := t.moves } := by
  obtain ⟨u, hu, hmove⟩ := step_next_cases h
  have hurst : u.rst = true := by rw [hu]; exact hrst
  obtain ⟨-, rfl⟩ | ⟨hen, -⟩ | ⟨-, -, -, hrun, -⟩ | ⟨-, -, hreq, -⟩ | ⟨b, hm, rfl⟩ := hmove
  · exact .inr hu
  · obtain ⟨hrun, -⟩ := (coreEnabled_iff u).mp hen
    cases hurst.symm.trans hrun
  · cases hurst.symm.trans hrun
  · cases (entReq_of_rst hurst).symm.trans hreq
  · obtain hd | ⟨-, rfl⟩ := driveReset_eq_or_releases u b
    · have hsame : driveReset u b = u := by
        rw [hd, hurst, Bool.or_true, ← hurst]
      exact .inr (by rw [hsame]; exact hu)
    · exact .inl ⟨hrst, by rw [hm]; rfl⟩

theorem faultOut_of_not_rst {s : State} (hrst : s.rst = false) :
    faultOut s = (readReg s (regAt 0x008)).getLsbD 1 := by
  obtain ⟨-, hfault, -⟩ := statusWord_bits s
  calc faultOut s = s.fault := by simp [faultOut, hrst]
    _ = (statusWord s).getLsbD 1 := hfault.symm

/-- Settles O22, from the outputs' gate by `rst`, the refusals it makes, and `step_of_rst`. -/
theorem assertedResetHolds : Obligations.AssertedResetHolds := by
  unfold Obligations.AssertedResetHolds
  refine ⟨fun s hrst => ⟨entReq_of_rst hrst, by simp [faultOut, hrst], fun a => hostAccess_of_rst hrst,
    sourceAnswer_of_no_request (entReq_of_rst hrst), fun t => step_of_rst hrst⟩, fun s hrst => ⟨faultOut_of_not_rst hrst, ?_⟩⟩
  exact fun hno => sourceAnswer_of_no_request (entReq_of_no_fill hno)

end Sys2Proof.Machine
end
